-- ==== Sys2Proof/Word.lean ====
section
/-! DEFINITION. The byte, the one bit-vector type that crosses the part's two serial lines and its flash port. -/

namespace Sys2Proof

/-- One byte of a frame, a packet, a table entry or the flash. -/
abbrev Byte := BitVec 8

end Sys2Proof
end

