-- ==== Sys2Proof/Syntax.lean ====
section
/-! DEFINITION. The syntax: the requests a frame of the control link may carry, and the commands of the part, one
constructor for each row of spec/opcode_table.json. -/

namespace Sys2Proof

/-- What a checked request frame asks for, in the order of the request table of R179. Operands have the widths R179
gives them. The two last constructors are frames whose kind or payload length R170 refuses. -/
inductive Request where
  | ping
  | setMode (code : Byte)
  | readTable (table index : Byte)
  | writeTable (table index : Byte) (entry : List Byte)
  | drive (throttle : BitVec 16) (direction : Byte)
  | releaseDrive
  | stop
  | setFunction (function state : Byte)
  | playCue (cue : Byte)
  | haltCue (cue : Byte)
  | storeErase (sector : BitVec 16)
  | storeWrite (address : BitVec 24) (data : List Byte)
  | storeRead (address : BitVec 24) (count : Byte)
  | readStatus
  | readCounters (group clear : Byte)
  | clearFault (target : Byte)
  | restart
  | badKind (kind : Byte)
  | badLength (kind : Byte)
deriving DecidableEq, Repr

/-- The time that has passed, in half microseconds, and the mean motor current, in µA, over the time in DRIVE since the current
was last read (R30). -/
structure Drawn where
  ticks : Nat
  meanMicroamps : Nat
deriving DecidableEq, Repr

/-- The commands of the part. Every command carries `after`, the time that has passed since the command before it,
in half microseconds (assumption 1). The requests carry the tag the host chose; the sampled events carry what the
part's sense inputs read. -/
inductive Instr where
  /-- POWER_ON (R175). -/
  | powerOn (after : Nat)
  /-- BROWNOUT (R164): the rail fell to `lowMv` and the reset was held until it stood at `endMv` (both mV). -/
  | brownout (after lowMv endMv : Nat)
  /-- PIN_RESET (R175). -/
  | pinReset (after : Nat)
  /-- RESTART_TAKES_EFFECT (R175). -/
  | restartTakesEffect (after : Nat)
  /-- LINK_BYTE (R167): a byte of the control link, and whether its stop bit was there. -/
  | linkByte (after : Nat) (byte : Byte) (stopBit : Bool)
  /-- LINK_GAP_EXPIRY (R167). -/
  | linkGapExpiry (after : Nat)
  /-- TRANSMIT_FRAME_END (R169). -/
  | transmitFrameEnd (after : Nat)
  /-- HOST_LEASE_EXPIRY (R85). -/
  | hostLeaseExpiry (after : Nat)
  /-- PING (R171). -/
  | ping (after : Nat) (tag : Byte)
  /-- SET_MODE_RUN (R172). -/
  | setModeRun (after : Nat) (tag : Byte)
  /-- SET_MODE_CONFIG (R172): any mode code but that of RUN. -/
  | setModeConfig (after : Nat) (tag code : Byte)
  /-- READ_TABLE (R171). -/
  | readTable (after : Nat) (tag table index : Byte)
  /-- WRITE_TABLE (R171). -/
  | writeTable (after : Nat) (tag table index : Byte) (entry : List Byte)
  /-- DRIVE (R85). -/
  | drive (after : Nat) (tag : Byte) (throttle : BitVec 16) (direction : Byte)
  /-- RELEASE_DRIVE (R85). -/
  | releaseDrive (after : Nat) (tag : Byte)
  /-- STOP (R86). -/
  | stop (after : Nat) (tag : Byte)
  /-- SET_FUNCTION (R88). -/
  | setFunction (after : Nat) (tag function state : Byte)
  /-- PLAY_CUE (R107). -/
  | playCue (after : Nat) (tag cue : Byte)
  /-- HALT_CUE (R106). -/
  | haltCue (after : Nat) (tag cue : Byte)
  /-- STORE_ERASE (R129). -/
  | storeErase (after : Nat) (tag : Byte) (sector : BitVec 16)
  /-- STORE_WRITE (R129). -/
  | storeWrite (after : Nat) (tag : Byte) (address : BitVec 24) (data : List Byte)
  /-- STORE_READ (R130). -/
  | storeRead (after : Nat) (tag : Byte) (address : BitVec 24) (count : Byte)
  /-- READ_STATUS (R173). -/
  | readStatus (after : Nat) (tag : Byte)
  /-- READ_COUNTERS (R173). -/
  | readCounters (after : Nat) (tag group clear : Byte)
  /-- CLEAR_FAULT_TRACTION (R20, R174). -/
  | clearFaultTraction (after : Nat) (tag : Byte)
  /-- CLEAR_FAULT_SMOKE (R143, R174). -/
  | clearFaultSmoke (after : Nat) (tag : Byte)
  /-- RESTART (R175). -/
  | restart (after : Nat) (tag : Byte)
  /-- RADIO_BYTE (R58): a byte of the radio line, and whether its stop bit was there. -/
  | radioByte (after : Nat) (byte : Byte) (stopBit : Bool)
  /-- RADIO_GAP_EXPIRY (R58). -/
  | radioGapExpiry (after : Nat)
  /-- DUPLICATE_ENTRY_FREED (R67): the slot whose 2,000 ms have passed. -/
  | duplicateEntryFreed (after : Nat) (slot : Fin 8)
  /-- INTERPRETATION_COMPLETE (R78). -/
  | interpretationComplete (after : Nat)
  /-- OWNER_LEASE_EXPIRY (R83). -/
  | ownerLeaseExpiry (after : Nat)
  /-- DWELL_EXPIRY (R93). -/
  | dwellExpiry (after : Nat)
  /-- BEACON_REARM (R91): the entry whose unheard timer has reached its re-arm time. -/
  | beaconRearm (after : Nat) (entry : Fin 16)
  /-- TRACTION_PERIOD_EXPIRY (R27): with the mean, in µA, of the motor current over the time in DRIVE since the current
  was last read (R30). -/
  | tractionPeriodExpiry (after meanMicroamps : Nat)
  /-- MEASUREMENT_COMPLETE (R31): the voltage of leg A above leg B, in mV. -/
  | measurementComplete (after : Nat) (terminalMv : Int)
  /-- SHORT_TRIP (R37): the instantaneous motor current at the comparator, in mA. -/
  | shortTrip (after currentMa : Nat)
  /-- DITHER_GROUP_START (R34), with a reading of the motor current (R30). -/
  | ditherGroupStart (after : Drawn)
  /-- AXLE_EDGE (R44). -/
  | axleEdge (after : Nat)
  /-- CAPTURE_TIMER_SATURATION (R45). -/
  | captureTimerSaturation (after : Nat)
  /-- CHUFF_TIMER_EXPIRY (R47). -/
  | chuffTimerExpiry (after : Nat)
  /-- REVOLUTION_TIMER_EXPIRY (R50). -/
  | revolutionTimerExpiry (after : Nat)
  /-- SENSOR_WATCH_EXPIRY (R51). -/
  | sensorWatchExpiry (after : Nat)
  /-- OUTPUT_SAMPLE (R132). -/
  | outputSample (after : Nat)
  /-- LINE_READ_COMPLETE (R126). -/
  | lineReadComplete (after : Nat)
  /-- STORE_STATUS_POLL (R129): whether the flash reports ready. -/
  | storeStatusPoll (after : Nat) (ready : Bool)
  /-- STORE_READ_COMPLETE (R130). -/
  | storeReadComplete (after : Nat)
  /-- WAITING_STATUS_POLL (R131): whether the flash reports ready. -/
  | waitingStatusPoll (after : Nat) (ready : Bool)
  /-- TEMPERATURE_SAMPLE (R137): the thermistor's reading in thousandths of a degree Celsius. -/
  | temperatureSample (after : Nat) (milliCelsius : Int)
  /-- FAN_BURST_EXPIRY (R144). -/
  | fanBurstExpiry (after : Nat)
  /-- LIGHT_UPDATE (R148). -/
  | lightUpdate (after : Nat)
  /-- STROBE_PHASE_EXPIRY (R151). -/
  | strobePhaseExpiry (after : Nat)
  /-- SUPPLY_SAMPLE (R157): the track voltage between the pickups (signed, mV), the rail voltage (mV), the supply
  current (µA). -/
  | supplySample (after : Nat) (trackMv : Int) (railMv currentMicroamps : Nat)
  /-- CARRIER_PERIOD_START (R34), with a reading of the motor current (R30). -/
  | carrierPeriodStart (after : Drawn)
  /-- DEAD_TIME_ELAPSED (R35). -/
  | deadTimeElapsed (after : Nat)
deriving DecidableEq, Repr

end Sys2Proof
end

