-- ==== Sys2Proof/Decode.lean ====
section
/-! DEFINITION. The decoder of table words. spec/opcode_table.json gives no row of this part any bits (the part is a
block that takes events, not words), so no word spells a command. The decoding the part itself does, of link frames
and of radio packets, is in Machine/Operands.lean and Machine/Radio.lean. -/

namespace Sys2Proof

/-- The command that a word of `nbits` bits spells: none, for no row of the table gives bits (assumption 9). -/
def decodeTableWord (_nbits _w : Nat) : Option Instr := none

end Sys2Proof
end

