-- ==== Sys2Proof/Config.lean ====
section
/-! DEFINITION. The free values: what the spec leaves open and the part goes on after. -/

namespace Sys2Proof

/-- What a flash byte holds after an erase or a write over it was cut off by a reset or a TIMEOUT: R131 says the
sector or page "may have" been "left ... partly changed" and says no more, so nothing is known of it. Applied to a
counter of State, so that each such byte has a value of its own. It has no body: a claim holds for every value
of it. (Assumption 8.) -/
opaque Config.freeByte : Nat → Byte

end Sys2Proof
end

