-- ==== Sys2Proof/Machine/Records.lean ====
section
/-! DEFINITION. The pieces of state of the twelve blocks: their names, their records, the tables with their defaults,
and the values each record takes at a reset. -/

namespace Sys2Proof.Machine

/-! ## Time -/

/-- Half microseconds, the unit of the model's clock (the step of the dead time, R35; assumption 1). -/
def ticksPerMs : Nat := 2000

/-- Ticks in 0.1 ms, the unit of the revolution and chuff intervals (R43). -/
def ticksPerTenth : Nat := 200

/-- Ticks in 10 µs, the unit of the capture timer (R44). -/
def ticksPerTenUs : Nat := 20

/-- A running timer: when it was started, and for how many ticks. A timer of the part is an `Option Timer`, `none`
when it is stopped. -/
structure Timer where
  since : Nat
  ticks : Nat
deriving DecidableEq, Repr

/-- Whether a running timer has run its time at `now`: its expiry can come from then on (assumption 2). -/
def Timer.due (t : Timer) (now : Nat) : Bool := decide (t.since + t.ticks ≤ now)

/-- The ticks a running timer has still to run at the time `now`. -/
def Timer.left (t : Timer) (now : Nat) : Nat := t.since + t.ticks - now

/-- The whole ms a running timer has still to run, a started ms counting as whole, so that it reads 0 only when the
time is out (R76, R93, R147). -/
def Timer.msLeft (t : Timer) (now : Nat) : Nat := (t.left now + (ticksPerMs - 1)) / ticksPerMs

/-! ## Choices (coded by their place in these lists, R176) -/

/-- R172. -/
inductive Mode where
  | config | run
deriving DecidableEq, Repr

/-- R175. -/
inductive ResetCause where
  | powerOn | brownout | pin | restart
deriving DecidableEq, Repr

/-- The direction of travel (R1, R76). -/
inductive Direction where
  | fwd | rev
deriving DecidableEq, Repr

/-- R2. -/
inductive TractionState where
  | idle | run | reversing | estop | fault
deriving DecidableEq, Repr

/-- R19. -/
inductive TractionFault where
  | stall | short
deriving DecidableEq, Repr

/-- R13. -/
inductive LoadBand where
  | light | normal | heavy
deriving DecidableEq, Repr

/-- R23. -/
inductive RestMode where
  | coast | brake
deriving DecidableEq, Repr

/-- R23: OPEN and CLOSED. -/
inductive Regulation where
  | openLoop | closedLoop
deriving DecidableEq, Repr

/-- R33: 20,000, 16,000 and 1,000 Hz. -/
inductive Carrier where
  | hz20000 | hz16000 | hz1000
deriving DecidableEq, Repr

/-- R25. -/
inductive BridgeState where
  | off | gap | drive | coast | brake | tripped
deriving DecidableEq, Repr

/-- R55. -/
inductive SensorMode where
  | sensor | synthetic | auto
deriving DecidableEq, Repr

/-- R43. -/
inductive CadenceMode where
  | sensor | synthetic
deriving DecidableEq, Repr

/-- R71. -/
inductive LossAction where
  | hold | stop | estop
deriving DecidableEq, Repr

/-- R76. -/
inductive Source where
  | none | radio | host
deriving DecidableEq, Repr

/-- The cause in a SOURCE notice (R97); the first three are also those of an OWNER notice. -/
inductive ControlCause where
  | select | release | lease | drive | releaseDrive | hostLease
deriving DecidableEq, Repr

/-- The origin of an emergency stop (R86, R97). -/
inductive EstopOrigin where
  | radio (source : Nat) | host | loss
deriving DecidableEq, Repr

/-- The cause of an end of a stop sequence (R94). -/
inductive StopCause where
  | dwellEnd | throttleZero | estop | fault
deriving DecidableEq, Repr

/-- R88. -/
inductive Writer where
  | radio | host | beacon
deriving DecidableEq, Repr

/-- R95. -/
inductive Qualifier where
  | any | fwd | rev
deriving DecidableEq, Repr

/-- R95. -/
inductive BeaconAction where
  | cue | cap | clearCap | stop | functionOn | functionOff
deriving DecidableEq, Repr

/-- R63. -/
inductive PacketClass where
  | own | consist | broadcast
deriving DecidableEq, Repr

/-- R98. -/
inductive CueClass where
  | oneShot | loop | scene
deriving DecidableEq, Repr

/-- R98. -/
inductive GainMode where
  | fixed | speed | load
deriving DecidableEq, Repr

/-- R98. -/
inductive RestartPolicy where
  | restart | ignore | layer
deriving DecidableEq, Repr

/-- R111. -/
inductive AmbientState where
  | stopped | working | drifting
deriving DecidableEq, Repr

/-- R100. -/
inductive VoiceState where
  | free | playing | releasing
deriving DecidableEq, Repr

/-- The outcomes of a PLAY_CUE (R107), coded by their place in its table. -/
inductive CueOutcome where
  | started | restarted | ignored | dropped | pending | sceneDropped
deriving DecidableEq, Repr

/-- The causes of a CUE_DONE notice (R108). -/
inductive CueEnd where
  | ended | released | stolen | restarted | cut | refused
deriving DecidableEq, Repr

/-- R136. -/
inductive SmokeState where
  | off | warming | ready | standby | shed | fault
deriving DecidableEq, Repr

/-- R136. -/
inductive SmokeFault where
  | dry | hot | sensor
deriving DecidableEq, Repr

/-- R154. -/
inductive LampMode where
  | steady | dirFwd | dirRev | firebox | strobe | ditchA | ditchB
deriving DecidableEq, Repr

/-- R156. -/
inductive SupplyState where
  | normal | rideThrough | depleted
deriving DecidableEq, Repr

/-- The causes of a SUPPLY notice (R166). -/
inductive SupplyCause where
  | dropout | recovered | rideLimit | railLow | levelUp | levelDown
deriving DecidableEq, Repr

/-- R128. -/
inductive StoreKind where
  | erase | write | read
deriving DecidableEq, Repr

/-- The result codes of R178. -/
inductive Result where
  | ok | okClamped | badLength | badKind | wrongMode | moving | conflict | noEntry | sampleBusy | storeBusy
  | noSample | notFaulted
deriving DecidableEq, Repr

/-! ## Tables -/

/-- R23. The dead time is in units of 0.1 µs (R176). -/
structure TractionTable where
  curve : Vector Nat 17
  accelRate : Nat
  decelRate : Nat
  kp : Nat
  ki : Nat
  heavyMargin : Nat
  lightMargin : Nat
  stallDuty : Nat
  stallEmf : Nat
  stallSteps : Nat
  currentLimit : Nat
  restMode : RestMode
  regulation : Regulation
  gapUs : Nat
  carrier : Carrier
  deadTenths : Nat
  shortTrip : Nat
deriving DecidableEq, Repr

/-- R55. -/
structure CadenceTable where
  sensorMode : SensorMode
  edges : Nat
  debounce : Nat
  chuffs : Nat
  kc : Nat
  emfFloor : Nat
  faultEmf : Nat
  timeout : Nat
deriving DecidableEq, Repr

/-- R71. -/
structure RadioTable where
  own : Nat
  consist : Nat
  reversed : Bool
  rssiFloor : Nat
  beaconRssi : Nat
  leaseTime : Nat
  autoSelect : Bool
  lossAction : LossAction
  hostLease : Nat
deriving DecidableEq, Repr

/-- One entry of the FUNCMAP table (R90). -/
structure FuncEntry where
  cue : Option Nat
  lights : Byte
  smoke : Bool
  shunting : Bool
  brake : Bool
  mute : Bool
  dim : Bool
deriving DecidableEq, Repr

/-- One entry of the BEACON table (R95). -/
structure BeaconEntry where
  id : Nat
  qualifier : Qualifier
  action : BeaconAction
  parameter : Nat
  delay : Nat
  rearm : Nat
deriving DecidableEq, Repr

/-- Loop points: the first position of the loop, and the one after its last (R120). -/
structure LoopPoints where
  first : Nat
  stop : Nat
deriving DecidableEq, Repr

/-- One entry of the SAMPLE table, and the sample parameters of a voice (R100, R120). -/
structure SampleEntry where
  start : Nat
  length : Nat
  loop : Option LoopPoints
deriving DecidableEq, Repr

/-- One entry of the CUE table (R98). -/
structure CueEntry where
  slot : Nat
  cls : CueClass
  priority : Nat
  gain : Nat
  gainMode : GainMode
  release : Nat
  restart : RestartPolicy
  horn : Bool
  firing : Bool
deriving DecidableEq, Repr

/-- R109: slot 3 · speed band + load band. -/
structure ChuffTable where
  slots : Vector (Option Nat) 12
  threshold1 : Nat
  threshold2 : Nat
  threshold3 : Nat
  gain : Nat
  reserve : Nat
deriving DecidableEq, Repr

/-- R111. -/
structure AmbientTable where
  stopped : Option Nat
  working : Option Nat
  drifting : Option Nat
deriving DecidableEq, Repr

/-- R145. -/
structure SmokeTable where
  target : Nat
  hysteresis : Nat
  maxTemp : Nat
  dryRise : Nat
  standby : Nat
  idleTimeout : Nat
  puffLength : Nat
  idleFan : Nat
  puffLight : Nat
  puffNormal : Nat
  puffHeavy : Nat
deriving DecidableEq, Repr

/-- A channel's entry of the LIGHTS table (R154). -/
structure LampEntry where
  mode : LampMode
  brightness : Nat
  bound : Option Nat
  fade : Nat
deriving DecidableEq, Repr

/-- R154. -/
structure LightsTable where
  channels : Vector LampEntry 8
  strobeOn : Nat
  strobeOff : Nat
deriving DecidableEq, Repr

/-- R165. -/
structure SupplyTable where
  rideThreshold : Nat
  rideLimit : Nat
  railMinimum : Nat
  budget : Nat
deriving DecidableEq, Repr

/-- The thirteen tables (R171). -/
structure Tables where
  traction : TractionTable
  cadence : CadenceTable
  radio : RadioTable
  funcMap : Vector FuncEntry 32
  beacon : Vector BeaconEntry 16
  sample : Vector SampleEntry 128
  cue : Vector CueEntry 64
  chuff : ChuffTable
  ambient : AmbientTable
  smoke : SmokeTable
  lights : LightsTable
  supply : SupplyTable
  masterVolume : Nat
deriving DecidableEq, Repr

/-- The default speed curve: Vk = 256·k for k = 0..15, V16 = 4095 (R23). -/
def defaultCurve : Vector Nat 17 := Vector.ofFn (fun k => if k.val = 16 then 4095 else 256 * k.val)

/-- R23. -/
def TractionTable.defaults : TractionTable :=
  { curve := defaultCurve, accelRate := 256, decelRate := 384, kp := 32, ki := 4, heavyMargin := 120,
    lightMargin := 60, stallDuty := 900, stallEmf := 100, stallSteps := 250, currentLimit := 5000,
    restMode := .coast, regulation := .closedLoop, gapUs := 300, carrier := .hz20000, deadTenths := 10,
    shortTrip := 10000 }

/-- R55. -/
def CadenceTable.defaults : CadenceTable :=
  { sensorMode := .auto, edges := 2, debounce := 10, chuffs := 4, kc := 40000, emfFloor := 40, faultEmf := 400,
    timeout := 2000 }

/-- R71. -/
def RadioTable.defaults : RadioTable :=
  { own := 3, consist := 0, reversed := false, rssiFloor := 30, beaconRssi := 140, leaseTime := 3000,
    autoSelect := true, lossAction := .stop, hostLease := 1000 }

/-- R90: F0 lights channels 0 and 1, F1 smokes, F2 plays cue 2, F3 shunts, F4 brakes, F5 mutes, F6 dims. -/
def FuncEntry.defaultFor (f : Nat) : FuncEntry :=
  { cue := if f = 2 then some 2 else none, lights := if f = 0 then 3 else 0, smoke := f == 1, shunting := f == 3,
    brake := f == 4, mute := f == 5, dim := f == 6 }

/-- R95. -/
def BeaconEntry.defaults : BeaconEntry :=
  { id := 0, qualifier := .any, action := .cue, parameter := 0, delay := 0, rearm := 5000 }

/-- R120: an empty slot. -/
def SampleEntry.empty : SampleEntry := { start := 0, length := 0, loop := none }

/-- R98: cue k names slot k. -/
def CueEntry.defaultFor (k : Nat) : CueEntry :=
  { slot := k, cls := .oneShot, priority := 4, gain := 200, gainMode := .fixed, release := 0, restart := .restart,
    horn := false, firing := false }

/-- R109. -/
def ChuffTable.defaults : ChuffTable :=
  { slots := Vector.replicate 12 none, threshold1 := 400, threshold2 := 1200, threshold3 := 2400, gain := 200,
    reserve := 2 }

/-- R111. -/
def AmbientTable.defaults : AmbientTable := { stopped := none, working := none, drifting := none }

/-- R145. -/
def SmokeTable.defaults : SmokeTable :=
  { target := 210, hysteresis := 5, maxTemp := 250, dryRise := 25, standby := 120, idleTimeout := 60,
    puffLength := 120, idleFan := 15, puffLight := 40, puffNormal := 75, puffHeavy := 100 }

/-- R154. -/
def LampEntry.defaultFor (k : Nat) : LampEntry :=
  match k with
  | 0 => { mode := .dirFwd, brightness := 240, bound := some 0, fade := 300 }
  | 1 => { mode := .dirRev, brightness := 240, bound := some 0, fade := 300 }
  | 2 => { mode := .firebox, brightness := 180, bound := none, fade := 100 }
  | _ => { mode := .steady, brightness := 0, bound := none, fade := 0 }

/-- R154. -/
def LightsTable.defaults : LightsTable :=
  { channels := Vector.ofFn (fun k => LampEntry.defaultFor k.val), strobeOn := 60, strobeOff := 940 }

/-- R165. -/
def SupplyTable.defaults : SupplyTable :=
  { rideThreshold := 120, rideLimit := 1500, railMinimum := 70, budget := 8000 }

/-- Every table at its defaults, as after POWER_ON, BROWNOUT and PIN (R175). -/
def Tables.defaults : Tables :=
  { traction := TractionTable.defaults, cadence := CadenceTable.defaults, radio := RadioTable.defaults,
    funcMap := Vector.ofFn (fun f => FuncEntry.defaultFor f.val), beacon := Vector.replicate 16 BeaconEntry.defaults,
    sample := Vector.replicate 128 SampleEntry.empty, cue := Vector.ofFn (fun k => CueEntry.defaultFor k.val),
    chuff := ChuffTable.defaults, ambient := AmbientTable.defaults, smoke := SmokeTable.defaults,
    lights := LightsTable.defaults, supply := SupplyTable.defaults, masterVolume := 160 }

/-! ## Counters -/

/-- R167, R168. -/
structure LinkCounters where
  checksum : Nat := 0
  framing : Nat := 0
  overrun : Nat := 0
deriving DecidableEq, Repr

/-- R72 and R97, in the order of R173. -/
structure RadioCounters where
  truncated : Nat := 0
  short : Nat := 0
  weak : Nat := 0
  lengthMismatch : Nat := 0
  badCheck : Nat := 0
  unknownKind : Nat := 0
  badBody : Nat := 0
  notForMe : Nat := 0
  beaconFar : Nat := 0
  duplicate : Nat := 0
  coalesced : Nat := 0
  queueOverflow : Nat := 0
  accepted : Nat := 0
  errorFreeRun : Nat := 0
  selectRefused : Nat := 0
  notOwner : Nat := 0
  ignoredHost : Nat := 0
  beaconUnknown : Nat := 0
  stopIgnored : Nat := 0
deriving DecidableEq, Repr

/-- R24. -/
structure TractionCounters where
  overcurrentSteps : Nat := 0
  shortTrips : Nat := 0
  stalls : Nat := 0
  shorts : Nat := 0
deriving DecidableEq, Repr

/-- R119, R135. -/
structure SoundCounters where
  cueDropped : Nat := 0
  noSample : Nat := 0
  sampleBusy : Nat := 0
  sceneDropped : Nat := 0
  underrun : Nat := 0
  clip : Nat := 0
deriving DecidableEq, Repr

/-- R166. -/
structure SupplyCounters where
  rideThroughs : Nat := 0
  depletions : Nat := 0
deriving DecidableEq, Repr

/-- The five groups (R173). -/
structure Counters where
  link : LinkCounters := {}
  radio : RadioCounters := {}
  traction : TractionCounters := {}
  sound : SoundCounters := {}
  supply : SupplyCounters := {}
deriving DecidableEq, Repr

/-! ## Motion Record (R1) -/

/-- R1. The demand is in 1/256 code. The fault cause of R1 is `none` outside FAULT. -/
structure Motion where
  state : TractionState := .idle
  faultCause : Option TractionFault := none
  faultTime : Nat := 0
  direction : Direction := .fwd
  target : Nat := 0
  demand : Nat := 0
  emf : Nat := 0
  current : Nat := 0
  integral : Nat := 0
  drive : Nat := 0
  ceiling : Nat := 1023
  budget : Nat := 1023
  band : LoadBand := .normal
  falling : Bool := false
  stallRun : Nat := 0
deriving DecidableEq, Repr

/-- The demand code: demand div 256 (R1). -/
def Motion.demandCode (m : Motion) : Nat := m.demand / 256

/-! ## Bridge Driver -/

/-- The two switches of one leg (R25, R33, R35). `high` is the step count at which the high side is switched in the
carrier period in progress: 0 off, 256 on throughout. The off times are when each switch last turned off, absent when
it has not since the reset; the held fields are turn-ons that wait for the dead time. -/
structure Leg where
  high : Nat := 0
  low : Bool := false
  highOff : Option Nat := none
  lowOff : Option Nat := none
  heldHigh : Nat := 0
  heldLow : Bool := false
deriving DecidableEq, Repr

/-- The accumulation of the motor current over the time in DRIVE of a period (R30): `charge` sums µA times half
microseconds over the DRIVE time already read, which is `time`; `unread` is DRIVE time that has ended and whose current is
not yet read; `since` is when the DRIVE in progress began or was last read, none outside DRIVE (assumption 26). -/
structure Accumulation where
  charge : Nat := 0
  time : Nat := 0
  unread : Nat := 0
  since : Option Nat := none
deriving DecidableEq, Repr

/-- What the Bridge Driver holds (R25 to R40). `awaiting` is yes from an expiry to its measurement complete;
`driving` is yes in the driving part; `closedCurrent` is the mean the last accumulation closed with (R30). -/
structure Bridge where
  state : BridgeState := .off
  direction : Direction := .fwd
  active : Nat := 0
  pendingLevel : Nat := 0
  group : Nat := 0
  carrierFrom : Nat := 0
  driving : Bool := false
  awaiting : Bool := false
  rest : RestMode := .coast
  period : Option Timer := none
  accumulation : Accumulation := {}
  closedCurrent : Nat := 0
  tripRun : Nat := 0
  tripHere : Bool := false
  legA : Leg := {}
  legB : Leg := {}
deriving DecidableEq, Repr

/-! ## Cadence Record (R43) -/

/-- R43. The capture timer is held as the time it was last cleared, absent when it stands at 65535. -/
structure Cadence where
  inUse : CadenceMode
  revInterval : Option Nat := none
  chuffInterval : Option Nat := none
  chuffsInUse : Nat
  chuffsLeft : Nat := 0
  revCount : Nat := 0
  edges : Nat := 0
  intervalSum : Nat := 0
  startAwaited : Bool := true
  captureFrom : Option Nat := none
  faultFlag : Bool := false
  watch : Option Nat := none
  chuffTimer : Option Timer := none
  revTimer : Option Timer := none
deriving DecidableEq, Repr

/-- R56, for the CADENCE table `t`; the revolution count is given, for it is kept at mode changes. -/
def Cadence.entry (t : CadenceTable) (revCount : Nat) : Cadence :=
  { inUse := if t.sensorMode = .synthetic then .synthetic else .sensor, chuffsInUse := t.chuffs, revCount := revCount }

/-! ## Control Record and Operator Control -/

/-- The stop sequence (R76, R93). -/
inductive StopSequence where
  | none
  | counting (left : Nat)
  | braking
  | dwell (timer : Timer)
deriving DecidableEq, Repr

/-- A zone cap (R92). -/
structure ZoneCap where
  beacon : Nat
  cap : Nat
deriving DecidableEq, Repr

/-- The flags derived from the Function Table (R89). -/
structure FunctionFlags where
  smoke : Bool := false
  shunting : Bool := false
  brake : Bool := false
  mute : Bool := false
  dim : Bool := false
deriving DecidableEq, Repr

/-- One function of the Function Table (R88). -/
structure FunctionState where
  on : Bool := false
  writer : Writer := .host
deriving DecidableEq, Repr

/-- The runtime of a Beacon Table entry (R91). -/
structure BeaconRuntime where
  armed : Bool := true
  unheard : Option Nat := none
deriving DecidableEq, Repr

/-- A packet as it waits for interpretation: its kind with its decoded body (R61, R68). -/
inductive Packet where
  | throttle (speed : Nat) (direction : Direction)
  | functions (group : Nat) (states : Byte)
  | select
  | release
  | beacon
deriving DecidableEq, Repr

/-- An entry of the inbound queue (R68). -/
structure QueueEntry where
  packet : Packet
  source : Nat
  cls : PacketClass
  sequence : Nat
deriving DecidableEq, Repr

/-- An interpretation in progress (R78): the entry taken, and the timer of the interpretation. -/
structure Interpretation where
  entry : QueueEntry
  timer : Timer
deriving DecidableEq, Repr

/-- The Control Record of R76 with the Function Table, the Beacon Table's runtime and the interpretation in progress.
The owner lease is a running timer while an owner is present. `dwellMs` is the dwell length of a started stop (R93). -/
structure Control where
  source : Source := .none
  owner : Option Nat := none
  lease : Option Timer := none
  throttle : Nat := 0
  held : Option Nat := none
  request : Direction := .fwd
  estop : Bool := false
  stopSeq : StopSequence := .none
  resume : Nat := 0
  deferred : Option Direction := none
  dwellMs : Nat := 0
  caps : List ZoneCap := []
  supplyCap : Option Nat := none
  flags : FunctionFlags := {}
  effective : Nat := 0
  functions : Vector FunctionState 32 := Vector.replicate 32 {}
  beacons : Vector BeaconRuntime 16 := Vector.replicate 16 {}
  interp : Option Interpretation := none
deriving DecidableEq, Repr

/-! ## Radio Intake -/

/-- The burst assembler (R58). `inRun` says that the length byte arrived in RUN (R73). -/
inductive Assembler where
  | quiet
  | collecting (inRun : Bool) (bytes : List Byte)
  | discarding
deriving DecidableEq, Repr

/-- An occupied entry of the duplicate table (R66). -/
structure DuplicateEntry where
  source : Nat
  sequence : Nat
  heard : Nat
deriving DecidableEq, Repr

/-- What the Radio Intake holds (R58, R66, R68, R69). -/
structure Radio where
  assembler : Assembler := .quiet
  gap : Option Timer := none
  duplicates : Vector (Option DuplicateEntry) 8 := Vector.replicate 8 none
  queue : List QueueEntry := []
  episode : Bool := false
deriving DecidableEq, Repr

/-! ## Sound Engine -/

/-- What a voice plays (R100). -/
inductive Content where
  | cue (number : Nat)
  | ambient (number : Nat) (state : AmbientState)
  | chuff
deriving DecidableEq, Repr

/-- A voice record (R100), and a context saved on the resume stack (R113). The values are those of a FREE voice, which keeps no
content; what its other fields hold is the model's choice (assumption 47). -/
structure Voice where
  state : VoiceState := .free
  content : Option Content := none
  host : Bool := false
  cls : CueClass := .oneShot
  priority : Nat := 0
  sample : SampleEntry := SampleEntry.empty
  gain : Nat := 0
  gainMode : GainMode := .fixed
  release : Nat := 0
  position : Nat := 0
  multiplier : Nat := 0
  horn : Bool := false
  firing : Bool := false
  waiting : Bool := false
  applied : Nat := 0
deriving DecidableEq, Repr

/-- A scene waiting in the pending scene slot (R113). -/
structure PendingScene where
  cue : Nat
  host : Bool
deriving DecidableEq, Repr

/-- What the Sound Engine holds (R99, R100, R111, R113). The head of `stack` is the top of the resume stack; the head
of `order` is the oldest start. -/
structure Sound where
  voices : Vector Voice 8 := Vector.replicate 8 {}
  order : List (Fin 8) := []
  stack : List Voice := []
  pendingScene : Option PendingScene := none
  reserve : Nat
  ambient : AmbientState := .stopped
deriving DecidableEq, Repr

/-! ## Sample Store Port -/

/-- The two line buffers of a voice (R122). -/
inductive BufferName where
  | first | second
deriving DecidableEq, Repr

/-- A line buffer (R122). -/
inductive LineBuffer where
  | empty
  | fetching (line : Nat) (demand : Bool) (asked : Nat) (inProgress : Bool)
  | full (line : Nat) (data : List Byte)
deriving DecidableEq, Repr

/-- The line buffers of a voice and the one it consumes (R122). -/
structure VoiceBuffers where
  first : LineBuffer := .empty
  second : LineBuffer := .empty
  consuming : Option BufferName := none
deriving DecidableEq, Repr

/-- The flash port (R127). -/
inductive PortState where
  | idle
  | line (voice : Fin 8) (buffer : BufferName) (address begun : Nat)
  | store
  | waiting
deriving DecidableEq, Repr

/-- The store operation record (R128): begun when the port has taken it; `clamped` is for a read (R130). -/
structure StoreOp where
  kind : StoreKind
  address : Nat
  count : Nat
  data : List Byte
  begun : Option Nat
  clamped : Bool
deriving DecidableEq, Repr

/-- What the Sample Store Port holds (R122, R127, R128, R131). -/
structure Store where
  port : PortState := .waiting
  op : Option StoreOp := none
  buffers : Vector VoiceBuffers 8 := Vector.replicate 8 {}
deriving DecidableEq, Repr

/-! ## Smoke Unit -/

/-- The rise window (R142). -/
structure RiseWindow where
  start : Int
  taken : Nat
deriving DecidableEq, Repr

/-- The Smoke Record (R136). The time stopped counts from `stoppedFrom`; absent, it is 0. -/
structure Smoke where
  state : SmokeState := .off
  latch : Option SmokeFault := none
  offSeen : Bool := false
  temperature : Option Int := none
  heater : Bool := false
  window : Option RiseWindow := none
  fan : Nat := 0
  burst : Option Timer := none
  stoppedFrom : Option Nat := none
deriving DecidableEq, Repr

/-! ## Light Unit -/

/-- A light channel's record (R147). -/
structure Lamp where
  output : Nat := 0
  target : Nat := 0
  firebox : Nat := 0
deriving DecidableEq, Repr

/-- The ditch phase with the light updates left (R147). -/
inductive DitchPhase where
  | steady
  | a (left : Nat)
  | b (left : Nat)
deriving DecidableEq, Repr

/-- What the Light Unit holds (R147). -/
structure Light where
  lamps : Vector Lamp 8 := Vector.replicate 8 {}
  generator : BitVec 16 := 0xACE1#16
  strobeOn : Bool := true
  strobe : Timer
  ditch : DitchPhase := .steady
  count : Nat := 0
deriving DecidableEq, Repr

/-! ## Supply Record (R156) -/

/-- R156. -/
structure Supply where
  state : SupplyState := .normal
  track : Nat := 0
  rail : Nat := 0
  current : Nat := 0
  lowRun : Nat := 0
  recoveryRun : Nat := 0
  elapsed : Nat := 0
  shed : Nat := 0
  overRun : Nat := 0
  underRun : Nat := 0
  budget : Nat := 1023
  cap : Option Nat := none
deriving DecidableEq, Repr

/-! ## Link Port -/

/-- The block a FAULT_CLEARED notice names (R180). -/
inductive FaultBlock where
  | traction | smoke
deriving DecidableEq, Repr

/-- One record of a BEACON notice (R91, R180): index, action, and whether it was done. -/
structure BeaconRecord where
  index : Nat
  action : BeaconAction
  done : Bool
deriving DecidableEq, Repr

/-- The stop sequence as a notice and the status record carry it (R180, R181). -/
structure StopView where
  code : Nat
  value : Nat
deriving DecidableEq, Repr

/-- The notices of R169 with the bodies of R180. -/
inductive Notice where
  | started (cause : ResetCause)
  | mode (mode : Mode)
  | source (source : Source) (cause : ControlCause)
  | owner (owner : Option Nat) (cause : ControlCause)
  | estop (origin : EstopOrigin)
  | tractionFault (cause : TractionFault)
  | smokeFault (cause : SmokeFault) (temperature : Option Int)
  | faultCleared (block : FaultBlock)
  | sensor (flag : Bool) (inUse : CadenceMode) (revCount : Nat)
  | beacon (id : Nat) (records : List BeaconRecord)
  | stopSequence (view : StopView) (resume : Nat) (cause : Option StopCause)
  | queueOverflow (kind : Nat) (source : Nat) (count : Nat)
  | supply (state : SupplyState) (shed : Nat) (cap : Option Nat) (track rail current : Nat) (cause : SupplyCause)
  | storeDone (kind : StoreKind) (address : Nat) (timeout : Bool)
  | cueDone (cue : Nat) (voice : Nat) (cause : CueEnd)
deriving DecidableEq, Repr

/-- An entry of the notice queue: its timestamp in ms and the notice (R169). -/
structure NoticeEntry where
  time : Nat
  notice : Notice
deriving DecidableEq, Repr

/-- A reply: the request's kind (before the reply marker), its tag, the result code and the reply content (R169). -/
structure Reply where
  kind : Byte
  tag : Byte
  result : Result
  content : List Byte
deriving DecidableEq, Repr

/-- A frame on the line (R169). -/
inductive Tx where
  | reply (r : Reply)
  | notice (n : NoticeEntry)
deriving DecidableEq, Repr

/-- How far a request in service has come: waiting for its reply content, its reply built and waiting for the reply
slot, or a RESTART whose reply has been placed and which stays until the restart (R168, R175, assumption 12). -/
inductive Stage where
  | working
  | built (r : Reply)
  | restarting
deriving DecidableEq, Repr

/-- A request of the request buffer (R168). -/
structure Tagged where
  tag : Byte
  request : Request
deriving DecidableEq, Repr

/-- The request in service (R168). -/
structure Service where
  tag : Byte
  request : Request
  stage : Stage
deriving DecidableEq, Repr

/-- The receiver (R167): `bytes` are those taken after the start marker. -/
inductive Receiver where
  | hunting
  | collecting (bytes : List Byte)
deriving DecidableEq, Repr

/-- What the Link Port holds (R167 to R170). -/
structure Link where
  receiver : Receiver := .hunting
  gap : Option Timer := none
  inService : Option Service := none
  waiting : Option Tagged := none
  slot : Option Reply := none
  onLine : Option Tx := none
  notices : List NoticeEntry := []
  lost : Bool := false
  hostLease : Option Timer := none
deriving DecidableEq, Repr

end Sys2Proof.Machine
end

