-- ==== Sys2Proof/Machine/State.lean ====
section
/-! DEFINITION. The state of the part, the reasons a command can stop the model, and the state after power-on. -/

namespace Sys2Proof.Machine

/-- Why the model can stop at a fault. -/
inductive Fault where
  /-- Raised by LINE_READ_COMPLETE where the line read lies outside the flash's 16 MiB, an address the spec says does
  not exist (R120, R121). Safe: the model stops where it knows nothing; no voice started from the Sample Table asks
  for such a line (assumption 33). -/
  | flashAddress (address : Nat)
deriving DecidableEq, Repr

/-- Why the model can refuse a command. -/
inductive Refusal where
  /-- Raised by the dispatch alone, for a command whose meaning is not written. Safe: the model stops. -/
  | notModelled (mnemonic : String)
deriving DecidableEq, Repr

/-- Everything the spec gives the part, the flash it is attached to, the queue of waiting commands and the counter of
the free values. `now` is the time since the end of the last reset in half microseconds. -/
structure State where
  now : Nat
  mode : Mode
  cause : ResetCause
  tables : Tables
  counters : Counters
  link : Link
  radio : Radio
  control : Control
  motion : Motion
  bridge : Bridge
  cadence : Cadence
  sound : Sound
  store : Store
  flash : List Host.Cell
  audio : Int
  smoke : Smoke
  light : Light
  supply : Supply
  freeCount : Nat
  pending : List Instr
deriving DecidableEq, Repr

/-- Every block at its values after a reset of cause `cause` with the tables `tables` (R22, R40, R56, R74, R96, R118,
R131, R134, R146, R155, R166, R175). The flash, the free values' counter and the queue of commands are not the
part's and are given. The link here is as the reset itself leaves it, before the STARTED notice. -/
def State.afterReset (cause : ResetCause) (tables : Tables) (flash : List Host.Cell) (freeCount : Nat)
    (pending : List Instr) : State :=
  { now := 0, mode := .config, cause := cause, tables := tables, counters := {}, link := {}, radio := {},
    control := {}, motion := {}, bridge := {}, cadence := Cadence.entry tables.cadence 0,
    sound := { reserve := tables.chuff.reserve }, store := {}, flash := flash, audio := 0, smoke := {},
    light := { strobe := { since := 0, ticks := tables.lights.strobeOn * ticksPerMs } }, supply := {},
    freeCount := freeCount, pending := pending }

/-- The state after a reset whose STARTED notice, the first notice of the empty queue, has been taken by the quiet
line at once (R169, R175). -/
def State.started (s : State) : State :=
  { s with link := { s.link with onLine := some (.notice { time := 0, notice := .started s.cause }) } }

/-- The machine after power-on (R175): the tables at their defaults, a flash of erased bytes (assumption 7), and no
command waiting. -/
def State.reset : State :=
  (State.afterReset .powerOn Tables.defaults [] 0 []).started

end Sys2Proof.Machine
end

