-- ==== Sys2Proof/Machine/Operands.lean ====
section
/-! DEFINITION. The operand forms of the part: numbers as bytes, the codes of the choice fields, the clamps of a table
write, every table entry as its bytes, every request as its payload, and the two check codes. -/

namespace Sys2Proof.Machine

/-! ## Numbers (R176) -/

/-- The number a run of bytes stands for, most significant byte first (R176). -/
def bigEndian (bytes : List Byte) : Nat := bytes.foldl (fun acc b => acc * 256 + b.toNat) 0

/-- A number as `width` bytes, most significant byte first (R176). -/
def toBytes : Nat → Nat → List Byte
  | 0, _ => []
  | w + 1, n => BitVec.ofNat 8 (n / 256 ^ w) :: toBytes w n

/-- `n` clamped to `lo`..`hi` (00_scope.md). -/
def clampTo (lo hi n : Nat) : Nat := max lo (min n hi)

/-- The quotient rounded up. -/
def ceilDiv (a b : Nat) : Nat := (a + (b - 1)) / b

/-- Counts saturate at 65535 (00_scope.md). -/
def bump (n : Nat) : Nat := min 65535 (n + 1)

/-- 0 for no, 1 for yes (R176). -/
def flagCode (b : Bool) : Nat := if b then 1 else 0

/-- The code of a value that may be absent (R176): `absent` stands for none. -/
def optionCode (absent : Nat) (o : Option Nat) : Nat := o.getD absent

/-- The value a code stands for where `absent` codes none (R176). -/
def optionOf (absent n : Nat) : Option Nat := if n = absent then none else some n

/-! ## Check codes -/

/-- One bit of the CRC-8 of R167. -/
def crc8Bit (r : BitVec 8) : BitVec 8 := if r.msb then (r <<< 1) ^^^ 0x07#8 else r <<< 1

/-- The CRC-8 of the control link: polynomial 0x07, register from 0, most significant bit first (R167). -/
def crc8 (bytes : List Byte) : BitVec 8 := bytes.foldl (fun r b => Nat.repeat crc8Bit 8 (r ^^^ b)) 0#8

/-- One bit of the CRC-16 of R62. -/
def crc16Bit (r : BitVec 16) : BitVec 16 := if r.msb then (r <<< 1) ^^^ 0x1021#16 else r <<< 1

/-- The CRC-16 of an air packet: polynomial 0x1021, register from 0xFFFF, most significant bit first (R62). -/
def crc16 (bytes : List Byte) : BitVec 16 :=
  bytes.foldl (fun r b => Nat.repeat crc16Bit 8 (r ^^^ BitVec.shiftLeft (b.setWidth 16) 8)) 0xFFFF#16

/-! ## Choice codes (R176: the place in the list) -/

/-- R172. -/
def Mode.code : Mode → Nat
  | .config => 0
  | .run => 1

/-- R180. -/
def ResetCause.code : ResetCause → Nat
  | .powerOn => 0
  | .brownout => 1
  | .pin => 2
  | .restart => 3

/-- FWD 0, REV 1. -/
def Direction.code : Direction → Nat
  | .fwd => 0
  | .rev => 1

/-- A code beyond the last is the last (R176); so is any nonzero direction byte of a packet (R61). -/
def Direction.ofCode (n : Nat) : Direction := if n = 0 then .fwd else .rev

/-- The other direction (R81). -/
def Direction.inverse : Direction → Direction
  | .fwd => .rev
  | .rev => .fwd

/-- R1. -/
def TractionState.code : TractionState → Nat
  | .idle => 0
  | .run => 1
  | .reversing => 2
  | .estop => 3
  | .fault => 4

/-- STALL 1, SHORT 2 (R180). -/
def TractionFault.code : TractionFault → Nat
  | .stall => 1
  | .short => 2

/-- R1. -/
def LoadBand.code : LoadBand → Nat
  | .light => 0
  | .normal => 1
  | .heavy => 2

/-- R176. -/
def RestMode.code : RestMode → Nat
  | .coast => 0
  | .brake => 1

/-- R176. -/
def RestMode.ofCode (n : Nat) : RestMode := if n = 0 then .coast else .brake

/-- R23. -/
def Regulation.code : Regulation → Nat
  | .openLoop => 0
  | .closedLoop => 1

/-- R23. -/
def Regulation.ofCode (n : Nat) : Regulation := if n = 0 then .openLoop else .closedLoop

/-- R176. -/
def Carrier.code : Carrier → Nat
  | .hz20000 => 0
  | .hz16000 => 1
  | .hz1000 => 2

/-- R176. -/
def Carrier.ofCode (n : Nat) : Carrier := if n = 0 then .hz20000 else if n = 1 then .hz16000 else .hz1000

/-- The ticks of a carrier period: 50, 62.5 and 1,000 µs (R33). -/
def Carrier.ticks : Carrier → Nat
  | .hz20000 => 100
  | .hz16000 => 125
  | .hz1000 => 2000

/-- R55. -/
def SensorMode.code : SensorMode → Nat
  | .sensor => 0
  | .synthetic => 1
  | .auto => 2

/-- R55. -/
def SensorMode.ofCode (n : Nat) : SensorMode := if n = 0 then .sensor else if n = 1 then .synthetic else .auto

/-- R43. -/
def CadenceMode.code : CadenceMode → Nat
  | .sensor => 0
  | .synthetic => 1

/-- R71. -/
def LossAction.code : LossAction → Nat
  | .hold => 0
  | .stop => 1
  | .estop => 2

/-- R71. -/
def LossAction.ofCode (n : Nat) : LossAction := if n = 0 then .hold else if n = 1 then .stop else .estop

/-- R76. -/
def Source.code : Source → Nat
  | .none => 0
  | .radio => 1
  | .host => 2

/-- R97. -/
def ControlCause.code : ControlCause → Nat
  | .select => 0
  | .release => 1
  | .lease => 2
  | .drive => 3
  | .releaseDrive => 4
  | .hostLease => 5

/-- R94. -/
def StopCause.code : StopCause → Nat
  | .dwellEnd => 0
  | .throttleZero => 1
  | .estop => 2
  | .fault => 3

/-- R88. -/
def Writer.code : Writer → Nat
  | .radio => 0
  | .host => 1
  | .beacon => 2

/-- R95. -/
def Qualifier.code : Qualifier → Nat
  | .any => 0
  | .fwd => 1
  | .rev => 2

/-- R95. -/
def Qualifier.ofCode (n : Nat) : Qualifier := if n = 0 then .any else if n = 1 then .fwd else .rev

/-- R95. -/
def BeaconAction.code : BeaconAction → Nat
  | .cue => 0
  | .cap => 1
  | .clearCap => 2
  | .stop => 3
  | .functionOn => 4
  | .functionOff => 5

/-- R95. -/
def BeaconAction.ofCode : Nat → BeaconAction
  | 0 => .cue
  | 1 => .cap
  | 2 => .clearCap
  | 3 => .stop
  | 4 => .functionOn
  | _ => .functionOff

/-- R98. -/
def CueClass.code : CueClass → Nat
  | .oneShot => 0
  | .loop => 1
  | .scene => 2

/-- R98. -/
def CueClass.ofCode (n : Nat) : CueClass := if n = 0 then .oneShot else if n = 1 then .loop else .scene

/-- R98. -/
def GainMode.code : GainMode → Nat
  | .fixed => 0
  | .speed => 1
  | .load => 2

/-- R98. -/
def GainMode.ofCode (n : Nat) : GainMode := if n = 0 then .fixed else if n = 1 then .speed else .load

/-- R98. -/
def RestartPolicy.code : RestartPolicy → Nat
  | .restart => 0
  | .ignore => 1
  | .layer => 2

/-- R98. -/
def RestartPolicy.ofCode (n : Nat) : RestartPolicy := if n = 0 then .restart else if n = 1 then .ignore else .layer

/-- R107. -/
def CueOutcome.code : CueOutcome → Nat
  | .started => 0
  | .restarted => 1
  | .ignored => 2
  | .dropped => 3
  | .pending => 4
  | .sceneDropped => 5

/-- R108. -/
def CueEnd.code : CueEnd → Nat
  | .ended => 0
  | .released => 1
  | .stolen => 2
  | .restarted => 3
  | .cut => 4
  | .refused => 5

/-- R136. -/
def SmokeState.code : SmokeState → Nat
  | .off => 0
  | .warming => 1
  | .ready => 2
  | .standby => 3
  | .shed => 4
  | .fault => 5

/-- DRY 1, HOT 2, SENSOR 3 (R180). -/
def SmokeFault.code : SmokeFault → Nat
  | .dry => 1
  | .hot => 2
  | .sensor => 3

/-- R154. -/
def LampMode.code : LampMode → Nat
  | .steady => 0
  | .dirFwd => 1
  | .dirRev => 2
  | .firebox => 3
  | .strobe => 4
  | .ditchA => 5
  | .ditchB => 6

/-- R154. -/
def LampMode.ofCode : Nat → LampMode
  | 0 => .steady
  | 1 => .dirFwd
  | 2 => .dirRev
  | 3 => .firebox
  | 4 => .strobe
  | 5 => .ditchA
  | _ => .ditchB

/-- R156. -/
def SupplyState.code : SupplyState → Nat
  | .normal => 0
  | .rideThrough => 1
  | .depleted => 2

/-- R166. -/
def SupplyCause.code : SupplyCause → Nat
  | .dropout => 0
  | .recovered => 1
  | .rideLimit => 2
  | .railLow => 3
  | .levelUp => 4
  | .levelDown => 5

/-- ERASE 0, WRITE 1 (R180). -/
def StoreKind.code : StoreKind → Nat
  | .erase => 0
  | .write => 1
  | .read => 2

/-- R178. -/
def Result.code : Result → Nat
  | .ok => 0
  | .okClamped => 1
  | .badLength => 2
  | .badKind => 3
  | .wrongMode => 4
  | .moving => 5
  | .conflict => 6
  | .noEntry => 7
  | .sampleBusy => 8
  | .storeBusy => 9
  | .noSample => 10
  | .notFaulted => 11

/-! ## Fields of a table entry -/

/-- How one field of a table entry is read: its bytes, what of them counts, and its clamp. -/
structure FieldRule where
  width : Nat
  read : Nat → Nat
  clamp : Nat → Nat

/-- A number of `width` bytes clamped to `lo`..`hi`. -/
def FieldRule.number (width lo hi : Nat) : FieldRule := ⟨width, id, clampTo lo hi⟩

/-- A choice field: a code beyond the last becomes the last (R176). -/
def FieldRule.choice (last : Nat) : FieldRule := FieldRule.number 1 0 last

/-- A flag: any nonzero value is taken as 1, without clamping (R176). -/
def FieldRule.flag : FieldRule := ⟨1, fun n => if n = 0 then 0 else 1, id⟩

/-- A one-byte number that may be none, 0xFF; another value above `hi` becomes `hi` (R176). -/
def FieldRule.orNone (hi : Nat) : FieldRule := ⟨1, id, fun n => if n = 255 then 255 else min n hi⟩

/-- A byte of flags, of which the lowest `bits` are named; those above are ignored (R176). -/
def FieldRule.flags (bits : Nat) : FieldRule := ⟨1, fun n => n % 2 ^ bits, id⟩

/-- A runtime field: ignored on a write (R176). -/
def FieldRule.runtime (width : Nat) : FieldRule := ⟨width, fun _ => 0, id⟩

/-- The fields of an entry's bytes after clamping, and whether any was clamped (R171). -/
def readFields : List FieldRule → List Byte → List Nat × Bool
  | [], _ => ([], false)
  | r :: rs, bytes =>
    let raw := r.read (bigEndian (bytes.take r.width))
    let rest := readFields rs (bytes.drop r.width)
    (r.clamp raw :: rest.1, (r.clamp raw != raw) || rest.2)

/-- The bytes of an entry from its fields. -/
def writeFields : List FieldRule → List Nat → List Byte
  | r :: rs, n :: ns => toBytes r.width n ++ writeFields rs ns
  | _, _ => []

/-- Field `k` of a list of fields. -/
def fieldAt (fields : List Nat) (k : Nat) : Nat := fields.getD k 0

/-! ## Table entries (R182) -/

/-- TRACTION (R23): a gap of 1..99 becomes 100; a dead time is taken to the multiple of 5 below it. -/
def tractionRules : List FieldRule :=
  List.replicate 17 (FieldRule.number 2 0 4095) ++
  [ .number 2 0 65535, .number 2 0 65535, .number 1 0 255, .number 1 0 255, .number 2 0 1023, .number 2 0 1023,
    .number 2 0 1023, .number 2 0 4095, .number 1 1 255, .number 2 500 10000, .choice 1, .choice 1,
    ⟨2, id, fun n => if n = 0 then 0 else clampTo 100 1000 n⟩, .choice 2, ⟨1, id, fun n => clampTo 5 40 n / 5 * 5⟩,
    .number 2 1000 12000 ]

/-- The TRACTION entry of a list of fields. -/
def TractionTable.ofFields (f : List Nat) : TractionTable :=
  { curve := Vector.ofFn (fun k => fieldAt f k.val), accelRate := fieldAt f 17, decelRate := fieldAt f 18,
    kp := fieldAt f 19, ki := fieldAt f 20, heavyMargin := fieldAt f 21, lightMargin := fieldAt f 22,
    stallDuty := fieldAt f 23, stallEmf := fieldAt f 24, stallSteps := fieldAt f 25, currentLimit := fieldAt f 26,
    restMode := RestMode.ofCode (fieldAt f 27), regulation := Regulation.ofCode (fieldAt f 28), gapUs := fieldAt f 29,
    carrier := Carrier.ofCode (fieldAt f 30), deadTenths := fieldAt f 31, shortTrip := fieldAt f 32 }

/-- The fields of the TRACTION entry, in the order of R182. -/
def TractionTable.fields (t : TractionTable) : List Nat :=
  t.curve.toList ++
  [ t.accelRate, t.decelRate, t.kp, t.ki, t.heavyMargin, t.lightMargin, t.stallDuty, t.stallEmf, t.stallSteps,
    t.currentLimit, t.restMode.code, t.regulation.code, t.gapUs, t.carrier.code, t.deadTenths, t.shortTrip ]

/-- The TRACTION entry a write carries, and whether a field was clamped (R23). -/
def TractionTable.decode (b : List Byte) : TractionTable × Bool :=
  let p := readFields tractionRules b
  (TractionTable.ofFields p.1, p.2)

/-- The TRACTION entry as bytes (R182). -/
def TractionTable.encode (t : TractionTable) : List Byte := writeFields tractionRules t.fields

/-- CADENCE (R55). -/
def cadenceRules : List FieldRule :=
  [ .choice 2, .number 1 1 8, .number 1 2 200, .number 1 1 8, .number 2 1 65535, .number 2 0 4095, .number 2 0 4095,
    .number 2 200 10000 ]

/-- The CADENCE entry a write carries, and whether a field was clamped (R55). -/
def CadenceTable.decode (b : List Byte) : CadenceTable × Bool :=
  let p := readFields cadenceRules b
  ({ sensorMode := SensorMode.ofCode (fieldAt p.1 0), edges := fieldAt p.1 1, debounce := fieldAt p.1 2,
     chuffs := fieldAt p.1 3, kc := fieldAt p.1 4, emfFloor := fieldAt p.1 5, faultEmf := fieldAt p.1 6,
     timeout := fieldAt p.1 7 }, p.2)

/-- The CADENCE entry as bytes (R182). -/
def CadenceTable.encode (t : CadenceTable) : List Byte :=
  writeFields cadenceRules [t.sensorMode.code, t.edges, t.debounce, t.chuffs, t.kc, t.emfFloor, t.faultEmf, t.timeout]

/-- RADIO (R71). -/
def radioRules : List FieldRule :=
  [ .number 2 1 4095, .number 2 0 4095, .flag, .number 1 0 255, .number 1 0 255, .number 2 500 30000, .flag, .choice 2,
    .number 2 100 5000 ]

/-- The RADIO entry a write carries, and whether a field was clamped (R71). -/
def RadioTable.decode (b : List Byte) : RadioTable × Bool :=
  let p := readFields radioRules b
  ({ own := fieldAt p.1 0, consist := fieldAt p.1 1, reversed := fieldAt p.1 2 == 1, rssiFloor := fieldAt p.1 3,
     beaconRssi := fieldAt p.1 4, leaseTime := fieldAt p.1 5, autoSelect := fieldAt p.1 6 == 1,
     lossAction := LossAction.ofCode (fieldAt p.1 7), hostLease := fieldAt p.1 8 }, p.2)

/-- The RADIO entry as bytes (R182). -/
def RadioTable.encode (t : RadioTable) : List Byte :=
  writeFields radioRules [t.own, t.consist, flagCode t.reversed, t.rssiFloor, t.beaconRssi, t.leaseTime,
    flagCode t.autoSelect, t.lossAction.code, t.hostLease]

/-- FUNCMAP (R90), with its two runtime bytes. -/
def funcRules : List FieldRule := [ .orNone 63, .number 1 0 255, .flags 5, .runtime 1, .runtime 1 ]

/-- The FUNCMAP flag byte: smoke 0, shunting 1, brake 2, mute 3, dim 4 (R176). -/
def FuncEntry.flagByte (e : FuncEntry) : Nat :=
  flagCode e.smoke + 2 * flagCode e.shunting + 4 * flagCode e.brake + 8 * flagCode e.mute + 16 * flagCode e.dim

/-- The FUNCMAP entry a write carries, and whether a field was clamped (R90). -/
def FuncEntry.decode (b : List Byte) : FuncEntry × Bool :=
  let p := readFields funcRules b
  let flags := fieldAt p.1 2
  ({ cue := optionOf 255 (fieldAt p.1 0), lights := BitVec.ofNat 8 (fieldAt p.1 1), smoke := flags.testBit 0,
     shunting := flags.testBit 1, brake := flags.testBit 2, mute := flags.testBit 3, dim := flags.testBit 4 }, p.2)

/-- The FUNCMAP entry as bytes, with the function's state and last writer (R171, R182). -/
def FuncEntry.encode (e : FuncEntry) (f : FunctionState) : List Byte :=
  writeFields funcRules [optionCode 255 e.cue, e.lights.toNat, e.flagByte, flagCode f.on, f.writer.code]

/-- BEACON (R95), with its runtime byte. The parameter is clamped by the action afterwards. -/
def beaconRules : List FieldRule :=
  [ .number 2 0 65535, .choice 2, .choice 5, .number 2 0 65535, .number 1 0 255, .number 2 200 60000, .runtime 1 ]

/-- The range of a BEACON entry's parameter by its action (R95). -/
def BeaconAction.clampParameter (a : BeaconAction) (n : Nat) : Nat :=
  match a with
  | .cue => min n 63
  | .cap => min n 1023
  | .clearCap => min n 65535
  | .stop => clampTo 1 600 n
  | .functionOn => min n 31
  | .functionOff => min n 31

/-- The BEACON entry a write carries, and whether a field was clamped (R95). -/
def BeaconEntry.decode (b : List Byte) : BeaconEntry × Bool :=
  let p := readFields beaconRules b
  let action := BeaconAction.ofCode (fieldAt p.1 2)
  let parameter := action.clampParameter (fieldAt p.1 3)
  ({ id := fieldAt p.1 0, qualifier := Qualifier.ofCode (fieldAt p.1 1), action := action, parameter := parameter,
     delay := fieldAt p.1 4, rearm := fieldAt p.1 5 }, p.2 || (parameter != fieldAt p.1 3))

/-- The BEACON entry as bytes, with its armed flag (R171, R182). -/
def BeaconEntry.encode (e : BeaconEntry) (armed : Bool) : List Byte :=
  writeFields beaconRules [e.id, e.qualifier.code, e.action.code, e.parameter, e.delay, e.rearm, flagCode armed]

/-- The bytes of the flash: 16 MiB (R120). -/
def flashSize : Nat := 16777216

/-- SAMPLE (R120). The length and the loop points are clamped in the order of R120 afterwards. -/
def sampleRules : List FieldRule :=
  [ .number 3 0 16777215, .number 4 0 4294967295, .flag, .number 4 0 4294967295, .number 4 0 4294967295 ]

/-- The clamps of a SAMPLE write, in the order of R120. Loop points of an entry whose loop flag is 0 are ignored
(R176). -/
def SampleEntry.clamped (start length : Nat) (looped : Bool) (first stop : Nat) : SampleEntry × Bool :=
  let length' := min length (flashSize - start)
  if !looped then ({ start := start, length := length', loop := none }, length' != length)
  else if length' = 0 then ({ start := start, length := length', loop := none }, true)
  else
    let stop' := if stop = 0 then 1 else min stop length'
    let first' := if first ≥ stop' then stop' - 1 else first
    ({ start := start, length := length', loop := some { first := first', stop := stop' } },
      (length' != length) || (stop' != stop) || (first' != first))

/-- The SAMPLE entry a write carries, and whether a field was clamped (R120). -/
def SampleEntry.decode (b : List Byte) : SampleEntry × Bool :=
  let p := readFields sampleRules b
  SampleEntry.clamped (fieldAt p.1 0) (fieldAt p.1 1) (fieldAt p.1 2 == 1) (fieldAt p.1 3) (fieldAt p.1 4)

/-- The SAMPLE entry as bytes; loop start and loop end read back as 0 without loop points (R176, R182). -/
def SampleEntry.encode (e : SampleEntry) : List Byte :=
  match e.loop with
  | none => writeFields sampleRules [e.start, e.length, 0, 0, 0]
  | some l => writeFields sampleRules [e.start, e.length, 1, l.first, l.stop]

/-- CUE (R98). -/
def cueRules : List FieldRule :=
  [ .number 1 0 127, .choice 2, .number 1 0 7, .number 1 0 255, .choice 2, .number 2 0 2000, .choice 2, .flags 2 ]

/-- The CUE entry a write carries, and whether a field was clamped (R98). -/
def CueEntry.decode (b : List Byte) : CueEntry × Bool :=
  let p := readFields cueRules b
  ({ slot := fieldAt p.1 0, cls := CueClass.ofCode (fieldAt p.1 1), priority := fieldAt p.1 2, gain := fieldAt p.1 3,
     gainMode := GainMode.ofCode (fieldAt p.1 4), release := fieldAt p.1 5,
     restart := RestartPolicy.ofCode (fieldAt p.1 6), horn := (fieldAt p.1 7).testBit 0,
     firing := (fieldAt p.1 7).testBit 1 }, p.2)

/-- The CUE entry as bytes (R182): HORN at bit 0, FIRING at bit 1 (R176). -/
def CueEntry.encode (e : CueEntry) : List Byte :=
  writeFields cueRules [e.slot, e.cls.code, e.priority, e.gain, e.gainMode.code, e.release, e.restart.code,
    flagCode e.horn + 2 * flagCode e.firing]

/-- CHUFF (R109). The thresholds are made not to fall afterwards. -/
def chuffRules : List FieldRule :=
  List.replicate 12 (FieldRule.orNone 127) ++
  [ .number 2 0 4095, .number 2 0 4095, .number 2 0 4095, .number 1 0 255, .number 1 1 3 ]

/-- The CHUFF entry a write carries, and whether a field was clamped (R109). -/
def ChuffTable.decode (b : List Byte) : ChuffTable × Bool :=
  let p := readFields chuffRules b
  let t1 := fieldAt p.1 12
  let t2 := max t1 (fieldAt p.1 13)
  let t3 := max t2 (fieldAt p.1 14)
  ({ slots := Vector.ofFn (fun k => optionOf 255 (fieldAt p.1 k.val)), threshold1 := t1, threshold2 := t2,
     threshold3 := t3, gain := fieldAt p.1 15, reserve := fieldAt p.1 16 },
    p.2 || (t2 != fieldAt p.1 13) || (t3 != fieldAt p.1 14))

/-- The CHUFF entry as bytes (R182). -/
def ChuffTable.encode (t : ChuffTable) : List Byte :=
  writeFields chuffRules
    (t.slots.toList.map (optionCode 255) ++ [t.threshold1, t.threshold2, t.threshold3, t.gain, t.reserve])

/-- AMBIENT (R111). -/
def ambientRules : List FieldRule := [ .orNone 63, .orNone 63, .orNone 63 ]

/-- The AMBIENT entry a write carries, and whether a field was clamped (R111). -/
def AmbientTable.decode (b : List Byte) : AmbientTable × Bool :=
  let p := readFields ambientRules b
  ({ stopped := optionOf 255 (fieldAt p.1 0), working := optionOf 255 (fieldAt p.1 1),
     drifting := optionOf 255 (fieldAt p.1 2) }, p.2)

/-- The AMBIENT entry as bytes (R182). -/
def AmbientTable.encode (t : AmbientTable) : List Byte :=
  writeFields ambientRules [optionCode 255 t.stopped, optionCode 255 t.working, optionCode 255 t.drifting]

/-- SMOKE (R145). -/
def smokeRules : List FieldRule :=
  [ .number 2 100 250, .number 1 1 20, .number 2 150 270, .number 1 5 60, .number 2 60 200, .number 2 10 600,
    .number 2 10 500, .number 1 0 100, .number 1 0 100, .number 1 0 100, .number 1 0 100 ]

/-- The SMOKE entry a write carries, and whether a field was clamped (R145). -/
def SmokeTable.decode (b : List Byte) : SmokeTable × Bool :=
  let p := readFields smokeRules b
  ({ target := fieldAt p.1 0, hysteresis := fieldAt p.1 1, maxTemp := fieldAt p.1 2, dryRise := fieldAt p.1 3,
     standby := fieldAt p.1 4, idleTimeout := fieldAt p.1 5, puffLength := fieldAt p.1 6, idleFan := fieldAt p.1 7,
     puffLight := fieldAt p.1 8, puffNormal := fieldAt p.1 9, puffHeavy := fieldAt p.1 10 }, p.2)

/-- The SMOKE entry as bytes (R182). -/
def SmokeTable.encode (t : SmokeTable) : List Byte :=
  writeFields smokeRules [t.target, t.hysteresis, t.maxTemp, t.dryRise, t.standby, t.idleTimeout, t.puffLength,
    t.idleFan, t.puffLight, t.puffNormal, t.puffHeavy]

/-- LIGHTS 0..7 (R154), with the two runtime bytes. -/
def lampRules : List FieldRule :=
  [ .choice 6, .number 1 0 255, .orNone 31, .number 2 0 2550, .runtime 1, .runtime 1 ]

/-- The LIGHTS channel entry a write carries, and whether a field was clamped (R154). -/
def LampEntry.decode (b : List Byte) : LampEntry × Bool :=
  let p := readFields lampRules b
  ({ mode := LampMode.ofCode (fieldAt p.1 0), brightness := fieldAt p.1 1, bound := optionOf 255 (fieldAt p.1 2),
     fade := fieldAt p.1 3 }, p.2)

/-- The LIGHTS channel entry as bytes, with its output and target levels (R171, R182). -/
def LampEntry.encode (e : LampEntry) (l : Lamp) : List Byte :=
  writeFields lampRules [e.mode.code, e.brightness, optionCode 255 e.bound, e.fade, l.output, l.target]

/-- LIGHTS 8 (R154), with the runtime phase and ms left. -/
def strobeRules : List FieldRule := [ .number 2 20 2000, .number 2 20 2000, .runtime 1, .runtime 2 ]

/-- SUPPLY (R165). -/
def supplyRules : List FieldRule := [ .number 2 80 250, .number 2 100 5000, .number 2 55 200, .number 2 1000 15000 ]

/-- The SUPPLY entry a write carries, and whether a field was clamped (R165). -/
def SupplyTable.decode (b : List Byte) : SupplyTable × Bool :=
  let p := readFields supplyRules b
  ({ rideThreshold := fieldAt p.1 0, rideLimit := fieldAt p.1 1, railMinimum := fieldAt p.1 2,
     budget := fieldAt p.1 3 }, p.2)

/-- The SUPPLY entry as bytes (R182). -/
def SupplyTable.encode (t : SupplyTable) : List Byte :=
  writeFields supplyRules [t.rideThreshold, t.rideLimit, t.railMinimum, t.budget]

/-- MIXER (R133): a one-byte master volume. -/
def mixerRules : List FieldRule := [ .number 1 0 255 ]

/-- The length of an entry of each of the thirteen tables (R182), none for another table id. -/
def entryLength (table : Nat) : Option Nat := [59, 12, 13, 5, 10, 16, 9, 20, 3, 16, 7, 8, 1][table]?

/-! ## Requests (R178, R179) -/

/-- The kind byte of a request (R179). -/
def requestKind : Request → Byte
  | .ping => 0x01
  | .setMode _ => 0x02
  | .readTable _ _ => 0x03
  | .writeTable _ _ _ => 0x04
  | .drive _ _ => 0x05
  | .releaseDrive => 0x06
  | .stop => 0x07
  | .setFunction _ _ => 0x08
  | .playCue _ => 0x09
  | .haltCue _ => 0x0A
  | .storeErase _ => 0x0B
  | .storeWrite _ _ => 0x0C
  | .storeRead _ _ => 0x0D
  | .readStatus => 0x0E
  | .readCounters _ _ => 0x0F
  | .clearFault _ => 0x10
  | .restart => 0x11
  | .badKind k => k
  | .badLength k => k

/-- The payload of a request (R179). The two refused forms have none to speak of. -/
def requestPayload : Request → List Byte
  | .ping => []
  | .setMode c => [c]
  | .readTable t i => [t, i]
  | .writeTable t i e => t :: i :: e
  | .drive v d => toBytes 2 v.toNat ++ [d]
  | .releaseDrive => []
  | .stop => []
  | .setFunction f st => [f, st]
  | .playCue c => [c]
  | .haltCue c => [c]
  | .storeErase n => toBytes 2 n.toNat
  | .storeWrite a d => toBytes 3 a.toNat ++ d
  | .storeRead a c => toBytes 3 a.toNat ++ [c]
  | .readStatus => []
  | .readCounters g c => [g, c]
  | .clearFault t => [t]
  | .restart => []
  | .badKind _ => []
  | .badLength _ => []

/-- The request a frame of kind `kind` carries (R170 steps 1 and 2, R179): BAD_KIND for a kind outside 0x01..0x11, and
BAD_LENGTH for a payload that is not the kind's length. The length of a table entry, and the byte count of a
STORE_WRITE, are judged when the request is dispatched. A WRITE_TABLE that names a table id outside the thirteen is not
judged on its length, so one that ends at the id is dispatched too, and answered NO_ENTRY there. -/
def decodeRequest (kind : Byte) (payload : List Byte) : Request :=
  match kind.toNat, payload with
  | 0x01, [] => .ping
  | 0x02, [c] => .setMode c
  | 0x03, [t, i] => .readTable t i
  | 0x04, t :: i :: e => .writeTable t i e
  | 0x04, [t] => if t.toNat < 13 then .badLength kind else .writeTable t 0#8 []
  | 0x05, [h, l, d] => .drive (BitVec.ofNat 16 (bigEndian [h, l])) d
  | 0x06, [] => .releaseDrive
  | 0x07, [] => .stop
  | 0x08, [f, st] => .setFunction f st
  | 0x09, [c] => .playCue c
  | 0x0A, [c] => .haltCue c
  | 0x0B, [h, l] => .storeErase (BitVec.ofNat 16 (bigEndian [h, l]))
  | 0x0C, a :: b :: c :: d => .storeWrite (BitVec.ofNat 24 (bigEndian [a, b, c])) d
  | 0x0D, [a, b, c, n] => .storeRead (BitVec.ofNat 24 (bigEndian [a, b, c])) n
  | 0x0E, [] => .readStatus
  | 0x0F, [g, c] => .readCounters g c
  | 0x10, [t] => .clearFault t
  | 0x11, [] => .restart
  | k, _ => if 0x01 ≤ k ∧ k ≤ 0x11 then .badLength kind else .badKind kind

/-- The whole frame a host sends for a request (R177): marker, length, kind, tag, payload, check. -/
def requestFrame (tag : Byte) (r : Request) : List Byte :=
  let body := BitVec.ofNat 8 ((requestPayload r).length + 2) :: requestKind r :: tag :: requestPayload r
  0x7E#8 :: (body ++ [crc8 body])

end Sys2Proof.Machine
end

