-- ==== Sys2Proof/Machine/Ops.lean ====
section
/-! DEFINITION. The operations shared by every block: the clock, the notice queue and the transmitter's line, the
counters, and the sample flash. -/

namespace Sys2Proof.Machine

/-! ## The clock -/

/-- The state as `after` ticks of time find it: the clock alone moves, and every timer is read against it
(assumption 1). -/
def State.elapse (s : State) (after : Nat) : State := { s with now := s.now + after }

/-- The whole ms since the end of the last reset. -/
def State.ms (s : State) : Nat := s.now / ticksPerMs

/-- The timestamp of a notice: ms since the last reset, wrapping from 4,294,967,295 to 0 (R169). -/
def State.timestamp (s : State) : Nat := s.ms % 4294967296

/-- A timer that starts now and runs `ms` milliseconds. -/
def State.timerMs (s : State) (ms : Nat) : Timer := { since := s.now, ticks := ms * ticksPerMs }

/-- A timer that starts now and runs `tenths` units of 0.1 ms. -/
def State.timerTenths (s : State) (tenths : Nat) : Timer := { since := s.now, ticks := tenths * ticksPerTenth }

/-- The whole ms since the time `since`. -/
def State.msSince (s : State) (since : Nat) : Nat := (s.now - since) / ticksPerMs

/-! ## Notices and the line (R169) -/

/-- The capacity of the notice queue (R169). -/
def noticeCapacity : Nat := 16

/-- A notice is raised: it joins the queue with its timestamp, or, where the queue holds 16 entries, is dropped and
sets the notices-lost flag (R169). -/
def State.notify (s : State) (n : Notice) : State :=
  if s.link.notices.length < noticeCapacity then
    { s with link := { s.link with notices := s.link.notices ++ [{ time := s.timestamp, notice := n }] } }
  else { s with link := { s.link with lost := true } }

/-- The transmitter takes its next frame when the line is free: the reply in the reply slot if there is one, and
otherwise the oldest notice (R169). -/
def Link.startLine (l : Link) : Link :=
  match l.onLine, l.slot, l.notices with
  | none, some r, _ => { l with onLine := some (.reply r), slot := none }
  | none, none, n :: rest => { l with onLine := some (.notice n), notices := rest }
  | _, _, _ => l

/-- The end of an event at the Link Port: a quiet line takes what is ready (R169). -/
def State.startLine (s : State) : State := { s with link := s.link.startLine }

/-! ## Counters -/

/-- A change of group LINK. -/
def State.countLink (s : State) (f : LinkCounters → LinkCounters) : State :=
  { s with counters := { s.counters with link := f s.counters.link } }

/-- A change of group RADIO. -/
def State.countRadio (s : State) (f : RadioCounters → RadioCounters) : State :=
  { s with counters := { s.counters with radio := f s.counters.radio } }

/-- A change of group TRACTION. -/
def State.countTraction (s : State) (f : TractionCounters → TractionCounters) : State :=
  { s with counters := { s.counters with traction := f s.counters.traction } }

/-- A change of group SOUND. -/
def State.countSound (s : State) (f : SoundCounters → SoundCounters) : State :=
  { s with counters := { s.counters with sound := f s.counters.sound } }

/-- A change of group SUPPLY. -/
def State.countSupply (s : State) (f : SupplyCounters → SupplyCounters) : State :=
  { s with counters := { s.counters with supply := f s.counters.supply } }

/-! ## The sample flash

A list of cells with addresses strictly rising and no cell equal to what an unlisted address reads as. -/

/-- What an address that is not listed reads as: an erased byte (assumption 7). -/
def Memory.blank : Byte := 0xFF#8

/-- The byte at an address. -/
def Memory.read : List Host.Cell → Nat → Byte
  | [], _ => Memory.blank
  | c :: cs, a => if c.1 = a then c.2 else if a < c.1 then Memory.blank else Memory.read cs a

/-- The flash with the byte `b` at address `a`: a listed cell is replaced or, where `b` is the blank byte, removed. -/
def Memory.write : List Host.Cell → Nat → Byte → List Host.Cell
  | [], a, b => if b = Memory.blank then [] else [(a, b)]
  | c :: cs, a, b =>
    if c.1 = a then (if b = Memory.blank then cs else (a, b) :: cs)
    else if a < c.1 then (if b = Memory.blank then c :: cs else (a, b) :: c :: cs)
    else c :: Memory.write cs a b

/-- `count` bytes from address `a` on. -/
def Memory.readRange (m : List Host.Cell) (a count : Nat) : List Byte :=
  (List.range count).map (fun k => Memory.read m (a + k))

/-- The flash erased over `count` bytes from `a` on: every byte there reads 0xFF (R129, assumption 7). -/
def Memory.erase (m : List Host.Cell) (a count : Nat) : List Host.Cell :=
  m.filter (fun c => c.1 < a || a + count ≤ c.1)

/-- The flash programmed with the bytes `data` from `a` on: programming can only change bits from 1 to 0, so each byte
holds the AND of old and new (R129). -/
def Memory.program : List Host.Cell → Nat → List Byte → List Host.Cell
  | m, _, [] => m
  | m, a, b :: bs => Memory.program (Memory.write m a (Memory.read m a &&& b)) (a + 1) bs

/-- The flash after an erase or write over `count` bytes from `a` on was cut off: nothing is known of those bytes but,
for a write, that programming only changes bits from 1 to 0 (R129, R131, assumption 8). `k` numbers the free
values. -/
def Memory.disturb : List Host.Cell → Bool → Nat → Nat → Nat → List Host.Cell
  | m, _, _, _, 0 => m
  | m, isWrite, k, a, n + 1 =>
    let free := Config.freeByte k
    Memory.disturb (Memory.write m a (if isWrite then Memory.read m a &&& free else free)) isWrite (k + 1) (a + 1) n

/-- The canonical form: addresses strictly rising, no cell that reads as an unlisted address does. -/
def Memory.wf : List Host.Cell → Bool
  | [] => true
  | [c] => c.2 != Memory.blank
  | c :: d :: cs => (c.2 != Memory.blank) && decide (c.1 < d.1) && Memory.wf (d :: cs)

/-- An erase or write that was begun and is now cut off leaves its range unknown (R131, assumption 8). -/
def State.disturbFlash (s : State) (op : StoreOp) : State :=
  match op.kind, op.begun with
  | .read, _ => s
  | _, none => s
  | .erase, some _ =>
    { s with flash := Memory.disturb s.flash false s.freeCount op.address op.count,
             freeCount := s.freeCount + op.count }
  | .write, some _ =>
    { s with flash := Memory.disturb s.flash true s.freeCount op.address op.count,
             freeCount := s.freeCount + op.count }

end Sys2Proof.Machine
end

