-- ==== Sys2Proof/Machine/Flags.lean ====
section
/-! DEFINITION. The figures and flags that are computed from other state: the effective throttle, the derived function
flags, the bridge state a traction state asks for, the load band, the gain of a voice, the published facts. -/

namespace Sys2Proof.Machine

/-- What the Traction Controller reads of the demand (R1). -/
def State.demandCode (s : State) : Nat := s.motion.demandCode

/-- The base of the effective throttle (R77 part 1). -/
def Control.base (c : Control) : Nat :=
  let raw := match c.source with
    | .none => c.held.getD 0
    | .radio => c.throttle
    | .host => c.throttle
  if c.flags.shunting then raw / 2 else raw

/-- The base bounded by every zone cap and the supply cap (R77 part 2). -/
def Control.capped (c : Control) : Nat :=
  let zoned := c.caps.foldl (fun v z => min v z.cap) c.base
  match c.supplyCap with
  | none => zoned
  | some cap => min zoned cap

/-- Whether the stop sequence forces the throttle to 0 (R77 part 3). -/
def StopSequence.forcesZero : StopSequence → Bool
  | .none => false
  | .counting _ => false
  | .braking => true
  | .dwell _ => true

/-- The effective throttle (R77). -/
def Control.effectiveThrottle (c : Control) : Nat :=
  if c.estop || c.stopSeq.forcesZero then 0 else c.capped

/-- The Control Record with its effective throttle recomputed (R77). -/
def Control.recompute (c : Control) : Control := { c with effective := c.effectiveThrottle }

/-- A flag is yes when some function that is on carries it in its map entry (R89). -/
def anyFunction (functions : Vector FunctionState 32) (map : Vector FuncEntry 32) (carries : FuncEntry → Bool) : Bool :=
  (List.finRange 32).any (fun f => functions[f].on && carries map[f])

/-- The five derived flags (R89). -/
def deriveFlags (functions : Vector FunctionState 32) (map : Vector FuncEntry 32) : FunctionFlags :=
  { smoke := anyFunction functions map (fun e => e.smoke), shunting := anyFunction functions map (fun e => e.shunting),
    brake := anyFunction functions map (fun e => e.brake), mute := anyFunction functions map (fun e => e.mute),
    dim := anyFunction functions map (fun e => e.dim) }

/-- The load band (R13). -/
def loadBandOf (t : TractionTable) (drive demandCode : Nat) (falling : Bool) : LoadBand :=
  let x : Int := (drive : Int) - ((demandCode / 4 : Nat) : Int)
  if x ≥ (t.heavyMargin : Int) then .heavy
  else if x ≤ -(t.lightMargin : Int) ∨ falling then .light
  else .normal

/-- The bridge state outside the gap (R26), apart from a trip. -/
def bridgeFor (traction : TractionState) (supply : SupplyState) (rest : RestMode) : BridgeState :=
  match traction with
  | .run => .drive
  | .reversing => .drive
  | .estop => .brake
  | .fault => .coast
  | .idle =>
    match supply, rest with
    | .depleted, _ => .coast
    | _, .coast => .coast
    | _, .brake => .brake

/-- The gain of a voice before its release (R115). -/
def gainOf (gain : Nat) (mode : GainMode) (demandCode : Nat) (band : LoadBand) : Nat :=
  match mode with
  | .fixed => gain
  | .speed => gain * (2048 + demandCode) / 6143
  | .load =>
    match band with
    | .light => gain / 2
    | .normal => gain * 3 / 4
    | .heavy => gain

/-- The voice with its applied gain evaluated from the Motion Record (R115). -/
def Voice.evaluated (v : Voice) (m : Motion) : Voice :=
  { v with applied := gainOf v.gain v.gainMode m.demandCode m.band * v.multiplier / 256 }

/-- A voice in PLAYING or RELEASING. -/
def Voice.active (v : Voice) : Bool := v.state != .free

/-- HORN active (R116). -/
def Sound.hornActive (s : Sound) : Bool := s.voices.toList.any (fun v => v.active && v.horn)

/-- FIRING active (R116). -/
def Sound.firingActive (s : Sound) : Bool := s.voices.toList.any (fun v => v.active && v.firing)

/-- The active voice count (R116). -/
def Sound.activeCount (s : Sound) : Nat := (s.voices.toList.filter (fun v => v.active)).length

/-- The ambient state of a Motion Record (R111). -/
def ambientOf (m : Motion) : AmbientState :=
  match m.state with
  | .idle => .stopped
  | .fault => .stopped
  | .estop => .stopped
  | .run => if m.demandCode > 0 ∧ m.band = .light then .drifting else .working
  | .reversing => if m.demandCode > 0 ∧ m.band = .light then .drifting else .working

/-- The AMBIENT table's cue for an ambient state (R111). -/
def AmbientTable.wanted (t : AmbientTable) : AmbientState → Option Nat
  | .stopped => t.stopped
  | .working => t.working
  | .drifting => t.drifting

/-- The value of the capture timer in units of 10 µs, at most 65535 (R44). -/
def Cadence.capture (c : Cadence) (now : Nat) : Nat :=
  match c.captureFrom with
  | none => 65535
  | some t => min 65535 ((now - t) / ticksPerTenUs)

/-- The time stopped in ms (R136). At the end of its range it stays at 4,294,967,295 (DESIGN CHOICE, unsafe,
assumption 52). -/
def Smoke.timeStopped (k : Smoke) (now : Nat) : Nat :=
  match k.stoppedFrom with
  | none => 0
  | some t => min 4294967295 ((now - t) / ticksPerMs)

/-- The stop sequence as a notice and the status record carry it: NONE 0, COUNTING 1 with the revolutions left,
BRAKING 2, DWELL 3 with the ms left (R180, R181). R180 and R181 give the four bytes of the revolutions or ms no value in NONE
and BRAKING; they are 0 there (DESIGN CHOICE, unsafe, assumption 55). -/
def StopSequence.view (q : StopSequence) (now : Nat) : StopView :=
  match q with
  | .none => { code := 0, value := 0 }
  | .counting n => { code := 1, value := n }
  | .braking => { code := 2, value := 0 }
  | .dwell t => { code := 3, value := t.msLeft now }

/-- The step count of a carrier period at a position of its dither group, for an active level (R33). -/
def stepCount (level position : Nat) : Nat :=
  let r := level % 4
  let extra := match position with
    | 0 => if r ≥ 1 then 1 else 0
    | 1 => if r ≥ 3 then 1 else 0
    | 2 => if r ≥ 2 then 1 else 0
    | _ => 0
  level / 4 + extra

end Sys2Proof.Machine
end

