-- ==== Sys2Proof/Machine/Control.lean ====
section
/-! DEFINITION. The Control Record and the station stop: what the Traction Controller, the Cadence Unit and the Supply
Manager hand to Operator Control (R76, R77, R93, R94). -/

namespace Sys2Proof.Machine

/-- The state with a changed Control Record, its effective throttle recomputed (R77). -/
def State.withControl (s : State) (c : Control) : State := { s with control := c.recompute }

/-- A STOP_SEQUENCE notice for the stop sequence as it now stands (R97). -/
def State.notifyStop (s : State) (cause : Option StopCause) : State :=
  s.notify (.stopSequence (s.control.stopSeq.view s.now) s.control.resume cause)

/-- The end of a stop sequence: the state becomes NONE and a present deferred direction becomes the direction request
(R94). The deferred direction is then absent; the spec calls it meaningful only during a sequence and gives it no value
after one (DESIGN CHOICE, unsafe, assumption 51). -/
def Control.endStop (c : Control) : Control :=
  { c with stopSeq := .none, request := c.deferred.getD c.request, deferred := none }

/-- The end of a stop sequence with its notice (R94). -/
def State.endStop (s : State) (cause : StopCause) : State :=
  (s.withControl s.control.endStop).notifyStop (some cause)

/-- A sequence passes to DWELL, with the dwell of the started stop (R93). -/
def State.enterDwell (s : State) : State :=
  (s.withControl { s.control with stopSeq := .dwell (s.timerMs s.control.dwellMs) }).notifyStop none

/-- A sequence passes to BRAKING, and at once to DWELL where the traction state already stands at IDLE (R93). -/
def State.enterBraking (s : State) : State :=
  let s := (s.withControl { s.control with stopSeq := .braking }).notifyStop none
  if s.motion.state = .idle then s.enterDwell else s

/-- A revolution event at Operator Control: COUNTING counts down, and at 0 becomes BRAKING (R93). -/
def State.countRevolution (s : State) : State :=
  match s.control.stopSeq with
  | .counting n =>
    if n ≤ 1 then s.enterBraking
    else (s.withControl { s.control with stopSeq := .counting (n - 1) }).notifyStop none
  | .none => s
  | .braking => s
  | .dwell _ => s

/-- A traction state change at Operator Control: IDLE ends the braking of a station stop, FAULT ends the sequence with
throttle 0 (R93, R94). -/
def State.stopOnTraction (s : State) : State :=
  match s.motion.state, s.control.stopSeq with
  | .idle, .braking => s.enterDwell
  | .fault, .none => s
  | .fault, _ => ({ s with control := { s.control with throttle := 0 } }).endStop .fault
  | _, _ => s

/-- The STOP beacon action (R93): whether a station stop was started, and the state after. -/
def State.startStop (s : State) (e : BeaconEntry) : State × Bool :=
  if s.control.stopSeq = .none ∧ s.demandCode > 0 then
    let c := { s.control with resume := s.control.throttle, dwellMs := e.parameter * 1000, deferred := none }
    if e.delay = 0 then (({ s with control := c }).enterBraking, true)
    else ((s.withControl { c with stopSeq := .counting e.delay }).notifyStop none, true)
  else (s.countRadio (fun k => { k with stopIgnored := bump k.stopIgnored }), false)

/-- DWELL reaches its end: the throttle takes the resume throttle and the sequence ends (R93). -/
def State.endDwell (s : State) : State :=
  match s.control.stopSeq with
  | .dwell t =>
    if t.due s.now then ({ s with control := { s.control with throttle := s.control.resume } }).endStop .dwellEnd else s
  | _ => s

end Sys2Proof.Machine
end

