-- ==== Sys2Proof/Machine/Smoke.lean ====
section
/-! DEFINITION. The Smoke Unit: state decision, heater, faults and fan puffs (chapter 8). -/

namespace Sys2Proof.Machine

/-- Whether the chamber is hot enough for READY: a valid temperature at or above target − hysteresis (R138, R140). -/
def Smoke.hotEnough (k : Smoke) (t : SmokeTable) : Bool :=
  match k.temperature with
  | none => false
  | some temp => decide ((t.target : Int) - (t.hysteresis : Int) ≤ temp)

/-- The record in OFF, SHED or FAULT: heater off, fan 0, no burst, no rise window (R138). -/
def Smoke.atRest (k : Smoke) (state : SmokeState) : Smoke :=
  { k with state := state, heater := false, window := none, fan := 0, burst := none }

/-- The fan level outside bursts (R144). -/
def restingFan (state : SmokeState) (t : SmokeTable) : Nat :=
  match state with
  | .ready => t.idleFan
  | .off => 0
  | .warming => 0
  | .standby => 0
  | .shed => 0
  | .fault => 0

/-- A change to WARMING, READY or STANDBY: a burst runs on in READY and STANDBY, and outside bursts the fan takes the
level of the new state (R140, R144). -/
def Smoke.moveTo (k : Smoke) (state : SmokeState) (t : SmokeTable) : Smoke :=
  if state = .warming then { k with state := state, fan := 0, burst := none }
  else if k.burst.isSome then { k with state := state }
  else { k with state := state, fan := restingFan state t }

/-- The smoke state decision (R138). -/
def Smoke.decide (k : Smoke) (t : SmokeTable) (mode : Mode) (enable : Bool) (shed : Nat) (supply : SupplyState) :
    Smoke :=
  if mode = .config then k.atRest .off
  else if k.latch.isSome then k.atRest .fault
  else if !enable then k.atRest .off
  else if shed ≥ 1 ∨ supply ≠ .normal then k.atRest .shed
  else
    match k.state with
    | .warming => k
    | .ready => k
    | .standby => k
    | .off => { k with heater := false, window := none }.moveTo (if k.hotEnough t then .ready else .warming) t
    | .shed => { k with heater := false, window := none }.moveTo (if k.hotEnough t then .ready else .warming) t
    | .fault => { k with heater := false, window := none }.moveTo (if k.hotEnough t then .ready else .warming) t

/-- The state decision made at an event that changed one of its inputs (R138). -/
def State.smokeDecide (s : State) : State :=
  { s with smoke := s.smoke.decide s.tables.smoke s.mode s.control.flags.smoke s.supply.shed s.supply.state }

/-- A smoke fault latches (R141). -/
def State.latchSmoke (s : State) (cause : SmokeFault) : State :=
  ({ s with smoke := { s.smoke with latch := some cause, offSeen := false } }.smokeDecide).notify
    (.smokeFault cause s.smoke.temperature)

/-- A latched smoke fault is cleared, with its notice and the decision that follows (R143); off seen is left as it stands
(assumption 49). -/
def State.clearSmoke (s : State) : State :=
  ({ s with smoke := { s.smoke with latch := none } }.notify (.faultCleared .smoke)).smokeDecide

/-- Smoke enable has changed from `before` to what the Control Record now holds: the enable cycle of R143, then the
decision of R138. -/
def State.smokeEnableChanged (s : State) (before : Bool) : State :=
  let now := s.control.flags.smoke
  if before = now then s
  else if s.smoke.latch.isNone then s.smokeDecide
  else if before then { s with smoke := { s.smoke with offSeen := true } }.smokeDecide
  else if s.smoke.offSeen then
    match s.smoke.temperature with
    | some temp => if temp < 60 then s.clearSmoke else { s with smoke := { s.smoke with offSeen := false } }.smokeDecide
    | none => { s with smoke := { s.smoke with offSeen := false } }.smokeDecide
  else s.smokeDecide

/-- A traction state change at the Smoke Unit (R140): the time stopped, and the end of STANDBY. -/
def State.smokeOnTraction (s : State) (before : TractionState) : State :=
  let k := s.smoke
  if s.motion.state = .idle then { s with smoke := { k with stoppedFrom := some s.now } }
  else if before = .idle then
    let k := { k with stoppedFrom := none }
    if k.state = .standby then
      { s with smoke := k.moveTo (if k.hotEnough s.tables.smoke then .ready else .warming) s.tables.smoke }
    else { s with smoke := k }
  else s

/-- Step 1 of a temperature sample (R137, R141, R142): the fault this sample finds, and the rise window after it. -/
def Smoke.detect (k : Smoke) (t : SmokeTable) : Option SmokeFault × Option RiseWindow :=
  match k.temperature with
  | none => (some .sensor, k.window)
  | some temp =>
    if temp ≥ (t.maxTemp : Int) then (some .hot, k.window)
    else
      match k.window with
      | none => (none, none)
      | some w =>
        if w.taken + 1 ≥ 10 then
          (if temp - w.start > (t.dryRise : Int) then some .dry else none, none)
        else (none, some { w with taken := w.taken + 1 })

/-- Whether fault detection is made: in RUN, smoke enabled, in WARMING, READY, STANDBY or SHED (R141). -/
def State.smokeDetects (s : State) : Bool :=
  s.mode == .run && s.control.flags.smoke &&
    (s.smoke.state == .warming || s.smoke.state == .ready || s.smoke.state == .standby || s.smoke.state == .shed)

/-- Step 2 of a temperature sample: WARMING to READY, READY to STANDBY (R140). -/
def Smoke.advance (k : Smoke) (t : SmokeTable) (now : Nat) : Smoke :=
  match k.state with
  | .warming => if k.hotEnough t then k.moveTo .ready t else k
  | .ready => if k.timeStopped now > t.idleTimeout * 1000 then k.moveTo .standby t else k
  | .standby => k
  | .off => k
  | .shed => k
  | .fault => k

/-- Whether the heater is regulated in a smoke state (R139). -/
def SmokeState.regulated : SmokeState → Bool
  | .warming => true
  | .ready => true
  | .standby => true
  | .off => false
  | .shed => false
  | .fault => false

/-- Step 3 of a temperature sample: the heater against the regulating target (R139). -/
def Smoke.regulate (k : Smoke) (t : SmokeTable) : Smoke :=
  if !k.state.regulated then { k with heater := false }
  else
    let target : Int := if k.state = .standby then t.standby else t.target
    match k.temperature with
    | none => k
    | some temp =>
      if temp < target - (t.hysteresis : Int) then { k with heater := true }
      else if temp ≥ target then { k with heater := false }
      else k

/-- Step 4 of a temperature sample: the rise window is started, runs on or is abandoned (R142). -/
def Smoke.runWindow (k : Smoke) : Smoke :=
  if !k.heater then { k with window := none }
  else
    match k.window, k.temperature with
    | none, some temp => { k with window := some { start := temp, taken := 0 } }
    | w, _ => { k with window := w }

/-- The temperature a thermistor reading gives: whole °C rounded down, invalid outside −20..300 (R137). -/
def temperatureOf (milliCelsius : Int) : Option Int :=
  let t := milliCelsius / 1000
  if -20 ≤ t ∧ t ≤ 300 then some t else none

/-- Steps 2 to 4 of a temperature sample (R137). -/
def State.smokeSettle (s : State) : State :=
  { s with smoke := ((s.smoke.advance s.tables.smoke s.now).regulate s.tables.smoke).runWindow }

/-- A temperature sample, in the order of R137. -/
def State.smokeSample (s : State) (milliCelsius : Int) : State :=
  let s := { s with smoke := { s.smoke with temperature := temperatureOf milliCelsius } }
  if s.smokeDetects then
    let found := s.smoke.detect s.tables.smoke
    let s := { s with smoke := { s.smoke with window := found.2 } }
    match found.1 with
    | some cause => (s.latchSmoke cause).smokeSettle
    | none => s.smokeSettle
  else s.smokeSettle

/-- The puff level for a load band (R144). -/
def SmokeTable.puff (t : SmokeTable) : LoadBand → Nat
  | .light => t.puffLight
  | .normal => t.puffNormal
  | .heavy => t.puffHeavy

/-- A chuff event at the Smoke Unit: in READY or STANDBY a puff burst starts, sized from the chuff interval (R144). -/
def State.puff (s : State) (chuffInterval : Nat) : State :=
  if s.smoke.state = .ready ∨ s.smoke.state = .standby then
    let ms := max 1 (min s.tables.smoke.puffLength (chuffInterval * 3 / 40))
    { s with smoke := { s.smoke with fan := s.tables.smoke.puff s.motion.band, burst := some (s.timerMs ms) } }
  else s

/-- The end of a fan burst: the fan returns to the level of the smoke state (R144). -/
def State.endBurst (s : State) : State :=
  match s.smoke.burst with
  | some t =>
    if t.due s.now then { s with smoke := { s.smoke with burst := none, fan := restingFan s.smoke.state s.tables.smoke } }
    else s
  | none => s

end Sys2Proof.Machine
end

