-- ==== Sys2Proof/Machine/Bridge.lean ====
section
/-! DEFINITION. The Bridge Driver: the gates with their dead time, dither, the measurement gap, the current ceiling and
the short-circuit trip (chapter 2). -/

namespace Sys2Proof.Machine

/-! ## The gates of a leg (R25, R33, R35) -/

/-- What a pattern asks of a leg: both switches off, the low side on, or the high side switched with a step count. -/
inductive LegRole where
  | off
  | lowOn
  | switching (steps : Nat)
deriving DecidableEq, Repr

/-- The timing a leg is driven against: the time, the dead time, and the beginning and length of the carrier period. -/
structure LegClock where
  now : Nat
  dead : Nat
  carrierFrom : Nat
  carrierTicks : Nat
deriving DecidableEq, Repr

/-- Whether an on-window of `steps` steps of the carrier period in progress is still open (R33: 256 steps a
period). -/
def LegClock.windowOpen (k : LegClock) (steps : Nat) : Bool :=
  decide ((k.now - k.carrierFrom) * 256 < steps * k.carrierTicks)

/-- When the high side last turned off, were it turned off now: now where its on-window is open, else the end of that
window (R33). -/
def Leg.highEnd (l : Leg) (k : LegClock) : Option Nat :=
  if l.high = 0 then l.highOff
  else if k.windowOpen l.high then some k.now
  else some (k.carrierFrom + ceilDiv (l.high * k.carrierTicks) 256)

/-- When the low side last turned off, were it turned off now. -/
def Leg.lowEnd (l : Leg) (k : LegClock) : Option Nat := if l.low then some k.now else l.lowOff

/-- Whether a switch that turned off at `off` still blocks the turn-on of the other switch of its leg (R35). -/
def LegClock.blocks (k : LegClock) (off : Option Nat) : Bool :=
  match off with
  | none => false
  | some t => decide (k.now < t + k.dead)

/-- The leg driven to a role: a switch turns off at once, and turns on unless the other switch of the leg turned off
less than the dead time before, when its turn-on is held (R35). -/
def Leg.drive (l : Leg) (k : LegClock) (role : LegRole) : Leg :=
  match role with
  | .off =>
    { high := 0, low := false, highOff := l.highEnd k, lowOff := l.lowEnd k, heldHigh := 0, heldLow := false }
  | .lowOn =>
    let wait := !l.low && k.blocks (l.highEnd k)
    { high := 0, low := !wait, highOff := l.highEnd k, lowOff := l.lowOff, heldHigh := 0, heldLow := wait }
  | .switching n =>
    let wait := k.blocks (l.lowEnd k)
    { high := if wait then 0 else n, low := false, highOff := if n = 0 ∨ wait then l.highEnd k else l.highOff,
      lowOff := l.lowEnd k, heldHigh := if wait then n else 0, heldLow := false }

/-- The dead time of a leg has run out: a held turn-on takes place, a held on-window only while it is still open
(R35): the high side turns on within the on-window in which the wait ends, which is shortened (assumption 41). A turn-on
that still has to wait stays held. -/
def Leg.release (l : Leg) (k : LegClock) : Leg :=
  let highGo := !k.blocks l.lowOff
  let lowGo := !k.blocks l.highOff
  { l with high := if highGo ∧ l.heldHigh ≠ 0 ∧ l.low = false ∧ l.heldLow = false ∧ k.windowOpen l.heldHigh
                   then l.heldHigh else l.high,
           low := if lowGo ∧ l.heldLow ∧ l.high = 0 then true else l.low,
           heldHigh := if highGo then 0 else l.heldHigh,
           heldLow := if lowGo then false else l.heldLow }

/-! ## The bridge -/

/-- The timing of the legs as the state stands. -/
def State.legClock (s : State) : LegClock :=
  { now := s.now, dead := s.tables.traction.deadTenths / 5, carrierFrom := s.bridge.carrierFrom,
    carrierTicks := s.tables.traction.carrier.ticks }

/-- The roles of leg A and leg B in a bridge state (R25, R36). -/
def Bridge.roles (b : Bridge) : LegRole × LegRole :=
  match b.state, b.direction with
  | .drive, .fwd => (.switching (stepCount b.active b.group), .lowOn)
  | .drive, .rev => (.lowOn, .switching (stepCount b.active b.group))
  | .brake, _ => (.lowOn, .lowOn)
  | .off, _ => (.off, .off)
  | .gap, _ => (.off, .off)
  | .coast, _ => (.off, .off)
  | .tripped, _ => (.off, .off)

/-- The gates driven to the pattern of the bridge as it now stands (R25, R35). -/
def Bridge.driveLegs (b : Bridge) (k : LegClock) : Bridge :=
  { b with legA := b.legA.drive k b.roles.1, legB := b.legB.drive k b.roles.2 }

/-- The accumulation runs while the bridge drives, and stops for the period when it no longer does: at a trip, an ESTOP
signal, a fault latch or forced IDLE (R30, R37). -/
def Accumulation.follow (a : Accumulation) (drives : Bool) (now : Nat) : Accumulation :=
  match a.since with
  | none => if drives then { a with since := some now } else a
  | some t => if drives then a else { a with unread := a.unread + (now - t), since := none }

/-- The DRIVE time whose current has not been read yet. -/
def Accumulation.pending (a : Accumulation) (now : Nat) : Nat :=
  match a.since with
  | none => a.unread
  | some t => a.unread + (now - t)

/-- A reading of the motor current, the mean in µA over the DRIVE time not yet read, is accumulated over that time
(R30). -/
def Accumulation.read (a : Accumulation) (microamps now : Nat) : Accumulation :=
  { charge := a.charge + microamps * a.pending now, time := a.time + a.pending now, unread := 0,
    since := a.since.map (fun _ => now) }

/-- The mean of an accumulation, rounded down to whole mA and clamped to 12,000: 0 for a period without DRIVE (R30). -/
def Accumulation.mean (a : Accumulation) : Nat := if a.time = 0 then 0 else min 12000 (a.charge / a.time / 1000)

/-- The bridge enters a state (R25), and the accumulation follows it in the driving part (R30). -/
def State.enterBridge (s : State) (state : BridgeState) : State :=
  { s with bridge := { s.bridge with
      state := state,
      accumulation := s.bridge.accumulation.follow (s.bridge.driving && (state == BridgeState.drive)) s.now
      }.driveLegs s.legClock }

/-- The bridge state R26 gives for the traction state and the supply state as they stand: a motor that is to be driven
stays TRIPPED for the rest of a period in which a trip was taken (R26, R37). Where the hand-over finds IDLE after a trip of
the same period, which gap_us 0 allows, the rest mode applies, BRAKE included: the IDLE rows of R26 are followed and not the
words of R37 that all four switches stay off for the rest of the period (DESIGN CHOICE, unsafe, assumption 58). -/
def State.wantedBridge (s : State) : BridgeState :=
  let wanted := bridgeFor s.motion.state s.supply.state s.bridge.rest
  if s.bridge.tripHere ∧ wanted = .drive then .tripped else wanted

/-- A change of traction state or supply state at the Bridge Driver: it applies at once outside the gap; in the gap the
new state is chosen at the hand-over; DRIVE begins at a hand-over alone; a change that asks for the bridge state that stands
leaves the bridge as it is (R26, R31, R158). Where gap_us is 0 and an expiry has ended a trip, a change of supply state in RUN
or REVERSING before the measurement complete event finds COAST, and the gates keep that pattern until the hand-over (R28),
although the table of R26 names DRIVE (DESIGN CHOICE, unsafe, assumption 57). -/
def State.followBridge (s : State) : State :=
  match s.bridge.state, s.wantedBridge with
  | .off, _ => s
  | .gap, _ => s
  | _, .drive => s
  | now, wanted => if wanted = now then s else s.enterBridge wanted

/-- Both levels become 0 (R34): the ESTOP signal, a fault latch, forced IDLE. -/
def State.zeroLevels (s : State) : State := { s with bridge := { s.bridge with active := 0, pendingLevel := 0 } }

/-- The Bridge Driver's record after the expiry of the traction period timer: the accumulation takes the reading of the
DRIVE time not yet read, closes, and is empty for the next period (R27, R30, R38). -/
def Bridge.closePeriod (b : Bridge) (now meanMicroamps : Nat) : Bridge :=
  { b with period := some { since := now, ticks := 4 * ticksPerMs }, driving := false, awaiting := true,
           tripRun := if b.tripHere then b.tripRun else 0, tripHere := false,
           closedCurrent := (b.accumulation.read meanMicroamps now).mean, accumulation := {} }

/-- The traction period timer's expiry (R27, R28, R30, R38): the carrier is cut, a trip ends, the trip run is settled,
the accumulation closes with the reading `meanMicroamps`, and the gap begins. With gap_us 0 a TRIPPED bridge goes to COAST
(assumption 24). -/
def State.periodExpiry (s : State) (meanMicroamps : Nat) : State :=
  match s.bridge.period with
  | none => s
  | some t =>
    if t.due s.now then
      let s := { s with bridge := s.bridge.closePeriod s.now meanMicroamps }
      if s.tables.traction.gapUs ≠ 0 then s.enterBridge .gap
      else if s.bridge.state = .tripped then s.enterBridge .coast
      else s
    else s

/-- Whether the gap that the expiry began has run its length: the measurement complete event (R28). -/
def State.gapOver (s : State) : Bool :=
  match s.bridge.period with
  | none => false
  | some t => s.bridge.awaiting && decide (t.since + s.tables.traction.gapUs * 2 ≤ s.now)

/-- The EMF code of a terminal voltage in mV with the polarity of the actual direction (R29). -/
def emfCode (terminalMv : Int) (direction : Direction) : Nat :=
  let v := match direction with
    | .fwd => terminalMv
    | .rev => -terminalMv
  min 4095 (v.toNat * 4095 / 28000)

/-- The current ceiling after an adjustment, and whether it fell (R32). -/
def adjustCeiling (ceiling current limit : Nat) : Nat × Bool :=
  if current > limit then (ceiling - 64, true)
  else if current * 8 ≤ limit * 7 then (min 1023 (ceiling + 8), false)
  else (ceiling, false)

/-- Steps 1 and 2 of the measurement complete event (R29 to R32), with the three values as the Traction Controller takes
them into the Motion Record (R3) and the rest mode as it is now held (R2). -/
def State.measure (s : State) (terminalMv : Int) : State :=
  let t := s.tables.traction
  let adjusted := adjustCeiling s.motion.ceiling s.bridge.closedCurrent t.currentLimit
  let s := { s with motion := { s.motion with emf := if t.gapUs = 0 then 0 else emfCode terminalMv s.motion.direction,
                                              current := s.bridge.closedCurrent, ceiling := adjusted.1 },
                    bridge := { s.bridge with rest := t.restMode, awaiting := false } }
  if adjusted.2 then s.countTraction (fun k => { k with overcurrentSteps := bump k.overcurrentSteps }) else s

/-- The beginning of a carrier period at a group position (R33, R34): the gates are driven to the pattern against the
carrier period that ends, and the new period begins now. -/
def Bridge.beginCarrier (b : Bridge) (k : LegClock) (position : Nat) : Bridge :=
  { ({ b with group := position }.driveLegs k) with carrierFrom := k.now }

/-- The hand-over (R31 steps 4 and 5): the drive level is pending and active from a new dither group, the legs take the
direction, and the bridge enters the state of R26. With gap_us 0 a trip may have fallen between the expiry and the
hand-over: it lasts for the rest of the period (R37). -/
def State.handOver (s : State) : State :=
  let wanted := s.wantedBridge
  let b := { s.bridge with pendingLevel := s.motion.drive, active := s.motion.drive, direction := s.motion.direction,
                           driving := true, state := wanted,
                           accumulation := s.bridge.accumulation.follow (wanted == BridgeState.drive) s.now }
  { s with bridge := b.beginCarrier s.legClock 0 }

/-- Whether a carrier period of the driving part has run its length (R33). -/
def State.carrierOver (s : State) : Bool :=
  s.bridge.driving && decide (s.bridge.carrierFrom + s.tables.traction.carrier.ticks ≤ s.now)

/-- A new dither group: position 0, and the active level takes the pending level (R34). -/
def State.newGroup (s : State) : State :=
  { s with bridge := { s.bridge with active := s.bridge.pendingLevel }.beginCarrier s.legClock 0 }

/-- A reading of the motor current at the accumulation (R30). -/
def State.readCurrent (s : State) (microamps : Nat) : State :=
  { s with bridge := { s.bridge with accumulation := s.bridge.accumulation.read microamps s.now } }

/-- A dither group starts within the driving part, after position 3 (R33, R34, assumption 30), with the reading of the
motor current since the reading before (R30, assumption 26). -/
def State.startGroup (s : State) (microamps : Nat) : State :=
  if s.carrierOver && decide (3 ≤ s.bridge.group) then (s.readCurrent microamps).newGroup else s

/-- A carrier period starts within the driving part: the group position advances, after position 3 a new group starts,
and the switching high side takes the new step count (R33, R34), with the reading of the motor current since the reading before
(R30, assumption 26). -/
def State.startCarrier (s : State) (microamps : Nat) : State :=
  if s.carrierOver then
    let s := s.readCurrent microamps
    if 3 ≤ s.bridge.group then s.newGroup
    else { s with bridge := s.bridge.beginCarrier s.legClock (s.bridge.group + 1) }
  else s

/-- The dead time has run out: held turn-ons of both legs take place (R35). -/
def State.deadTimeOver (s : State) : State :=
  { s with bridge := { s.bridge with legA := s.bridge.legA.release s.legClock,
                                     legB := s.bridge.legB.release s.legClock } }

end Sys2Proof.Machine
end

