-- ==== Sys2Proof/Machine/Traction.lean ====
section
/-! DEFINITION. The Traction Controller: the regulation step, the emergency stop, faults and forced IDLE (chapter 1). -/

namespace Sys2Proof.Machine

/-! ## The regulation step (R3 to R15) -/

/-- The target code of the speed curve for an effective throttle (R4). -/
def curveTarget (curve : Vector Nat 17) (throttle : Nat) : Nat :=
  if throttle = 0 then 0
  else
    let k := throttle / 64
    let v0 : Int := curve.getD k 0
    let v1 : Int := curve.getD (k + 1) 0
    (v0 + Int.tdiv ((v1 - v0) * ((throttle % 64 : Nat) : Int)) 64).toNat

/-- The rising step (R7). -/
def risingStep (t : TractionTable) (shunting : Bool) : Nat :=
  min 65535 (t.accelRate * (if shunting then 2 else 1))

/-- The falling step (R7). -/
def fallingStep (t : TractionTable) (shunting brake : Bool) : Nat :=
  min 65535 (t.decelRate * ((if shunting then 2 else 1) * (if brake then 4 else 1)))

/-- The demand moved toward the goal (R8). -/
def moveDemand (demand goal rising falling : Nat) : Nat :=
  if demand < goal then (if rising = 0 then goal else min goal (demand + rising))
  else if goal < demand then (if falling = 0 then goal else max goal (demand - falling))
  else demand

/-- What the regulator computes (R9, R10): u_raw, the candidate integral and the error. -/
structure Regulator where
  raw : Int
  candidate : Nat
  error : Int
deriving DecidableEq, Repr

/-- The integral clamped to 0..262,143 (R10). -/
def clampIntegral (i : Int) : Nat := min 262143 i.toNat

/-- Part d of the regulation step (R9, R10). -/
def regulator (t : TractionTable) (demandCode emf integral : Nat) : Regulator :=
  let e : Int := (demandCode : Int) - (emf : Int)
  match t.regulation with
  | .openLoop => { raw := ((demandCode / 4 : Nat) : Int), candidate := 0, error := e }
  | .closedLoop =>
    let candidate := clampIntegral ((integral : Int) + (t.ki : Int) * e)
    if demandCode = 0 then { raw := 0, candidate := candidate, error := e }
    else { raw := ((t.kp : Int) * e + (candidate : Int)) / 256, candidate := candidate, error := e }

/-- The drive level: u_raw clamped to 0..1023, at most both ceilings (R11). -/
def driveLevel (raw : Int) (ceiling budget : Nat) : Nat := min (min (min 1023 raw.toNat) ceiling) budget

/-- The integral after part e (R9, R12). -/
def settleIntegral (t : TractionTable) (r : Regulator) (demandCode drive integral : Nat) : Nat :=
  match t.regulation with
  | .openLoop => 0
  | .closedLoop =>
    if demandCode = 0 then 0
    else if r.raw > (drive : Int) ∧ r.error > 0 then integral
    else r.candidate

/-- The stall run after part g (R14). -/
def stallRunAfter (t : TractionTable) (drive emf run : Nat) : Nat :=
  if t.stallDuty ≠ 0 ∧ t.gapUs ≠ 0 ∧ drive ≥ t.stallDuty ∧ emf < t.stallEmf then min 255 (run + 1) else 0

/-- Whether part g latches STALL with the stall run it leaves (R14): a run of 0 is no qualifying step. -/
def stallReached (t : TractionTable) (run : Nat) : Bool := run ≠ 0 && t.stallSteps ≤ run

/-- What the step reads of the Control Record (R3). -/
structure StepInput where
  effective : Nat
  request : Direction
  shunting : Bool
  brake : Bool
deriving DecidableEq, Repr

/-- The full regulation step, parts a to g and the state decision of R15 (R3 to R15); a latching STALL is for R19. -/
def Motion.regulate (m : Motion) (t : TractionTable) (i : StepInput) : Motion :=
  let differs := m.direction ≠ i.request
  let override := differs ∧ m.demand ≠ 0
  let target := if override then 0 else curveTarget t.curve i.effective
  let direction := if differs ∧ m.demand = 0 then i.request else m.direction
  let demand := moveDemand m.demand (target * 256) (risingStep t i.shunting) (fallingStep t i.shunting i.brake)
  let code := demand / 256
  let falling := decide (demand < m.demand)
  let r := regulator t code m.emf m.integral
  let drive := driveLevel r.raw m.ceiling m.budget
  { m with target := target, direction := direction, demand := demand, falling := falling, drive := drive,
           integral := settleIntegral t r code drive m.integral, band := loadBandOf t drive code falling,
           stallRun := stallRunAfter t drive m.emf m.stallRun,
           state := if override then .reversing else if target ≠ 0 ∨ demand ≠ 0 then .run else .idle }

/-- The Motion Record with the motor at nothing: target, demand, integral and drive level 0, load band NORMAL, demand
falling no, stall run 0 (R17, R19, R21). -/
def Motion.stilled (m : Motion) : Motion :=
  { m with target := 0, demand := 0, integral := 0, drive := 0, band := .normal, falling := false, stallRun := 0 }

/-- Whether the traction state is IDLE, RUN or REVERSING. -/
def TractionState.regulating : TractionState → Bool
  | .idle => true
  | .run => true
  | .reversing => true
  | .estop => false
  | .fault => false

/-! ## State changes -/

/-- A change of the traction state is delivered to Operator Control and the Smoke Unit (R1). -/
def State.tractionChanged (s : State) (before : TractionState) : State :=
  if before = s.motion.state then s else s.stopOnTraction.smokeOnTraction before

/-- A traction fault latches in the Motion Record, is counted and noticed (R19). -/
def State.latchMotion (s : State) (cause : TractionFault) : State :=
  let s := { s with motion := { s.motion.stilled with state := .fault, faultCause := some cause, faultTime := s.timestamp } }
  let s := s.countTraction (fun k =>
    match cause with
    | .stall => { k with stalls := bump k.stalls }
    | .short => { k with shorts := bump k.shorts })
  s.notify (.tractionFault cause)

/-- SHORT latches at the third trip of a run: the fault of R19, both levels 0, the bridge in COAST (R34, R38). Its
TRACTION_FAULT notice goes before the STOP_SEQUENCE notice of a stop it ends (assumption 14). -/
def State.latchShort (s : State) : State :=
  let before := s.motion.state
  if before.regulating then ((s.latchMotion .short).zeroLevels.followBridge).tractionChanged before else s

/-- The ESTOP signal (R17). -/
def State.estopSignal (s : State) : State :=
  let before := s.motion.state
  if before.regulating then
    ({ s with motion := { s.motion.stilled with state := .estop } }.zeroLevels.followBridge).tractionChanged before
  else s

/-- The estop latch has been cleared: ESTOP becomes IDLE and the bridge goes to rest mode (R18). -/
def State.estopCleared (s : State) : State :=
  if s.motion.state = .estop then
    ({ s with motion := { s.motion with state := .idle } }.followBridge).tractionChanged .estop
  else s

/-- A latched traction fault is cleared (R20). -/
def State.clearTraction (s : State) : State :=
  let state := if s.control.estop then TractionState.estop else TractionState.idle
  let s := { s with motion := { s.motion with faultCause := none, stallRun := 0, ceiling := 1023, state := state } }
  (s.followBridge.notify (.faultCleared .traction)).tractionChanged .fault

/-- The ms since the latching of a traction fault, by the fault time and the time since reset as the part holds them, both
wrapping at 4,294,967,296 ms (R1, R20, assumption 40). DESIGN CHOICE, unsafe: each of the two is rounded down to whole ms
before they are subtracted, so 1,000 ms can be reached up to 1 ms before they have run (assumption 50). -/
def State.faultAge (s : State) : Nat := (s.timestamp + 4294967296 - s.motion.faultTime) % 4294967296

/-- A zero throttle from the controlling source is reported: it clears a fault latched 1,000 ms ago or more (R20). -/
def State.zeroReported (s : State) : State :=
  if s.motion.state = .fault ∧ 1000 ≤ s.faultAge then s.clearTraction else s

/-- Forced IDLE on depletion (R21). -/
def State.forceIdle (s : State) : State :=
  let before := s.motion.state
  if before.regulating then
    ({ s with motion := { s.motion.stilled with state := .idle } }.zeroLevels.followBridge).tractionChanged before
  else s

/-- The regulation step on the measured state: full in IDLE, RUN and REVERSING, with the STALL latch of R19; the
direction switch alone in ESTOP; nothing in FAULT (R3, R14, R16). -/
def State.regulationStep (s : State) : State :=
  match s.motion.state with
  | .fault => s
  | .estop => { s with motion := { s.motion with direction := s.control.request } }
  | _ =>
    let m := s.motion.regulate s.tables.traction
      { effective := s.control.effective, request := s.control.request, shunting := s.control.flags.shunting,
        brake := s.control.flags.brake }
    let s := { s with motion := m }
    if stallReached s.tables.traction m.stallRun then s.latchMotion .stall else s

/-- The short-circuit trip (R37, R38): armed in DRIVE, at `currentMa` of short_trip or more. The third trip of a run
latches SHORT. -/
def State.trip (s : State) (currentMa : Nat) : State :=
  if s.bridge.state = .drive ∧ s.tables.traction.shortTrip ≤ currentMa then
    let run := s.bridge.tripRun
    let s := s.enterBridge .tripped
    let s := s.countTraction (fun k => { k with shortTrips := bump k.shortTrips })
    if run ≥ 2 then { s with bridge := { s.bridge with tripRun := 0, tripHere := true } }.latchShort
    else { s with bridge := { s.bridge with tripRun := run + 1, tripHere := true } }
  else s

end Sys2Proof.Machine
end

