-- ==== Sys2Proof/Machine/Store.lean ====
section
/-! DEFINITION. The Sample Store Port: line buffers, the flash port arbiter, the store operation record (chapter 7). -/

namespace Sys2Proof.Machine

/-! ## Lines (R121) -/

/-- The bytes of a line (07). -/
def lineSize : Nat := 32

/-- The address of the line that holds a position of a voice (R121). -/
def Voice.lineOf (v : Voice) (position : Nat) : Nat := (v.sample.start + position) / lineSize * lineSize

/-- The line of the voice's position. -/
def Voice.line (v : Voice) : Nat := v.lineOf v.position

/-- The next needed line after a line (R121). -/
def Voice.nextNeeded (v : Voice) (line : Nat) : Option Nat :=
  match v.cls, v.sample.loop with
  | .loop, some l => some (if line = v.lineOf (l.stop - 1) then v.lineOf l.first else line + lineSize)
  | .loop, none => some (if line = v.lineOf (v.sample.length - 1) then v.lineOf 0 else line + lineSize)
  | .oneShot, _ => if line = v.lineOf (v.sample.length - 1) then none else some (line + lineSize)
  | .scene, _ => if line = v.lineOf (v.sample.length - 1) then none else some (line + lineSize)

/-! ## The two buffers of a voice (R122) -/

/-- One of the two buffers. -/
def VoiceBuffers.get (b : VoiceBuffers) : BufferName → LineBuffer
  | .first => b.first
  | .second => b.second

/-- One of the two buffers replaced. -/
def VoiceBuffers.set (b : VoiceBuffers) (name : BufferName) (l : LineBuffer) : VoiceBuffers :=
  match name with
  | .first => { b with first := l }
  | .second => { b with second := l }

/-- The other buffer of the voice. -/
def BufferName.other : BufferName → BufferName
  | .first => .second
  | .second => .first

/-- Whether a buffer holds a line in FULL. -/
def LineBuffer.holds (b : LineBuffer) (line : Nat) : Bool :=
  match b with
  | .full l _ => l == line
  | .empty => false
  | .fetching _ _ _ _ => false

/-- A waiting request for a line (R122). -/
def LineBuffer.request (line : Nat) (demand : Bool) (now : Nat) : LineBuffer := .fetching line demand now false

/-- A prefetch for the next needed line after `line` is asked for in a buffer, unless R121 gives none or that line
itself (R123, R124). -/
def VoiceBuffers.prefetch (b : VoiceBuffers) (v : Voice) (line : Nat) (name : BufferName) (now : Nat) : VoiceBuffers :=
  match v.nextNeeded line with
  | none => b
  | some next => if next = line then b else b.set name (LineBuffer.request next false now)

/-- A buffer at an underrun for `line`: another line is dropped, a waiting prefetch of the line becomes a demand refill
of now (R124). -/
def LineBuffer.underrun (b : LineBuffer) (line now : Nat) : LineBuffer :=
  match b with
  | .fetching l demand asked inProgress =>
    if l ≠ line then .empty
    else if inProgress ∨ demand then .fetching l demand asked inProgress
    else .fetching l true now false
  | .empty => .empty
  | .full _ _ => .empty

/-- Both buffers at an underrun for `line` (R124); a new demand refill goes to the first buffer (assumption 48). -/
def VoiceBuffers.underrun (b : VoiceBuffers) (line now : Nat) : VoiceBuffers :=
  let f := b.first.underrun line now
  let g := b.second.underrun line now
  if f = .empty ∧ g = .empty then
    { first := LineBuffer.request line true now, second := .empty, consuming := none }
  else { first := f, second := g, consuming := none }

/-- The buffer of a voice that holds a line in FULL. -/
def VoiceBuffers.holding (b : VoiceBuffers) (line : Nat) : Option BufferName :=
  if b.first.holds line then some .first else if b.second.holds line then some .second else none

/-- A line boundary into the line of the voice's position, for the voice `v` (R124): the buffers after it, and whether
it was an underrun. -/
def VoiceBuffers.boundary (b : VoiceBuffers) (v : Voice) (now : Nat) : VoiceBuffers × Bool :=
  match b.holding v.line with
  | none => (b.underrun v.line now, true)
  | some name =>
    let freed := name.other
    let b := { b with consuming := some name }
    if (b.get freed).holds v.line then (b, false)
    else ((b.set freed .empty).prefetch v v.line freed now, false)

/-- The byte a voice plays, where it consumes a buffer in FULL (R121, R132). -/
def VoiceBuffers.byteAt (b : VoiceBuffers) (v : Voice) : Option Byte :=
  match b.consuming with
  | none => none
  | some name =>
    match b.get name with
    | .full line data => data[v.sample.start + v.position - line]?
    | .empty => none
    | .fetching _ _ _ _ => none

/-! ## Voices and their buffers in the state -/

/-- A voice record replaced. -/
def State.setVoice (s : State) (i : Fin 8) (v : Voice) : State :=
  { s with sound := { s.sound with voices := s.sound.voices.set i v } }

/-- The buffers of a voice replaced. -/
def State.setBuffers (s : State) (i : Fin 8) (b : VoiceBuffers) : State :=
  { s with store := { s.store with buffers := s.store.buffers.set i b } }

/-- Both buffers of a voice become EMPTY, its waiting requests withdrawn (R122). -/
def State.emptyBuffers (s : State) (i : Fin 8) : State := s.setBuffers i {}

/-- A start, restart or resumption at the port: the buffers are emptied and a demand refill for the line of the first
position is asked for in the first buffer (R122, R123). -/
def State.askFirst (s : State) (i : Fin 8) (v : Voice) : State :=
  s.setBuffers i { first := LineBuffer.request v.line true s.now, second := .empty, consuming := none }

/-! ## The arbiter (R127) -/

/-- A request waiting for the port. -/
structure WaitingRequest where
  voice : Fin 8
  buffer : BufferName
  line : Nat
  demand : Bool
  asked : Nat
deriving DecidableEq, Repr

/-- The waiting request of one buffer, if it has one. -/
def LineBuffer.waitingFor (b : LineBuffer) (voice : Fin 8) (name : BufferName) : List WaitingRequest :=
  match b with
  | .fetching line demand asked inProgress =>
    if inProgress then [] else [{ voice := voice, buffer := name, line := line, demand := demand, asked := asked }]
  | .empty => []
  | .full _ _ => []

/-- Every waiting request, by voice index. -/
def Store.waitingRequests (t : Store) : List WaitingRequest :=
  (List.finRange 8).flatMap (fun i =>
    (t.buffers[i].first).waitingFor i .first ++ (t.buffers[i].second).waitingFor i .second)

/-- The request of the earliest time, the first in the list among equals. -/
def earliest : List WaitingRequest → Option WaitingRequest
  | [] => none
  | r :: rs =>
    match earliest rs with
    | none => some r
    | some q => if q.asked < r.asked then some q else some r

/-- The line request the arbiter prefers (R127 parts 2 and 3). -/
def Store.nextRequest (t : Store) : Option WaitingRequest :=
  let all := t.waitingRequests
  match earliest (all.filter (fun r => r.demand)) with
  | some r => some r
  | none => (all.filter (fun r => !r.demand)).head?

/-- A line read begins (R126, R127). -/
def Store.beginLine (t : Store) (r : WaitingRequest) (now : Nat) : Store :=
  { t with port := .line r.voice r.buffer r.line now,
           buffers := t.buffers.set r.voice
             (t.buffers[r.voice].set r.buffer (.fetching r.line r.demand r.asked true)) }

/-- The flash port arbiter: an idle port takes its next transfer (R127). -/
def Store.arbitrate (t : Store) (now : Nat) : Store :=
  match t.port, t.op with
  | .idle, some op => { t with port := .store, op := some { op with begun := some now } }
  | .idle, none =>
    match t.nextRequest with
    | some r => t.beginLine r now
    | none => t
  | .line _ _ _ _, _ => t
  | .store, _ => t
  | .waiting, _ => t

/-- The arbiter acts at the end of an event (assumption 15). -/
def State.arbitrate (s : State) : State := { s with store := s.store.arbitrate s.now }

/-! ## Line reads (R126) -/

/-- The buffers and the record of a voice after its line has come: a voice waiting for its first line, or in underrun
for this line, consumes it, and asks for the next (R123, R125). -/
def arrived (b : VoiceBuffers) (v : Voice) (name : BufferName) (line now : Nat) : VoiceBuffers × Voice :=
  if v.waiting then (({ b with consuming := some name }).prefetch v line name.other now, { v with waiting := false })
  else if b.consuming.isNone ∧ v.line = line then
    (({ b with consuming := some name }).prefetch v line name.other now, v)
  else (b, v)

/-- Whether a buffer is still FETCHING this line with its request in progress (R126). -/
def LineBuffer.expects (b : LineBuffer) (line : Nat) : Bool :=
  match b with
  | .fetching l _ _ inProgress => l == line && inProgress
  | .empty => false
  | .full _ _ => false

/-- The bytes of a line go to the buffer that asked for them, or are discarded (R126). -/
def State.deliverLine (s : State) (i : Fin 8) (name : BufferName) (line : Nat) : State :=
  let b := s.store.buffers[i]
  if (b.get name).expects line then
    let b := b.set name (.full line (Memory.readRange s.flash line lineSize))
    let p := arrived b s.sound.voices[i] name line s.now
    (s.setBuffers i p.1).setVoice i p.2
  else s

/-- A line read ends: its bytes are delivered or discarded, and the port is free (R126, R127). -/
def State.lineComplete (s : State) (i : Fin 8) (name : BufferName) (line : Nat) : State :=
  let s := s.deliverLine i name line
  { s with store := { s.store with port := .idle } }

/-- The ticks of a line read: 20 µs (R126). -/
def lineTicks : Nat := 40

/-! ## Store operations (R128 to R131) -/

/-- Whether two runs of bytes overlap. -/
def rangesOverlap (a n b m : Nat) : Bool := decide (a < b + m) && decide (b < a + n)

/-- Whether the bytes of a sample overlap an erase or write in flight (R128). -/
def Store.blocks (t : Store) (e : SampleEntry) : Bool :=
  match t.op with
  | none => false
  | some op => (op.kind != .read) && rangesOverlap op.address op.count e.start e.length

/-- Whether some voice in PLAYING or RELEASING plays bytes of a range (R128 test 4). -/
def Sound.playsIn (n : Sound) (address count : Nat) : Bool :=
  n.voices.toList.any (fun v => v.active && rangesOverlap address count v.sample.start v.sample.length)

/-- Test 3 of R128: an operation in flight, or the port in WAITING. -/
def Store.busy (t : Store) : Bool := t.op.isSome || (t.port == PortState.waiting)

/-- An operation enters the record, waiting for the port (R128). -/
def State.acceptOp (s : State) (op : StoreOp) : State := { s with store := { s.store with op := some op } }

/-- STORE_ERASE (R128, R129): the refusal, or the state with the operation accepted and its first address. -/
def State.storeErase (s : State) (sector : Nat) : Except Result (State × Nat) :=
  if 4095 < sector then .error .noEntry
  else if s.store.busy then .error .storeBusy
  else if s.sound.playsIn (sector * 4096) 4096 then .error .sampleBusy
  else .ok (s.acceptOp { kind := .erase, address := sector * 4096, count := 4096, data := [], begun := none,
                         clamped := false }, sector * 4096)

/-- STORE_WRITE (R128, R129). -/
def State.storeWrite (s : State) (address : Nat) (data : List Byte) : Except Result (State × Nat) :=
  if data.length < 1 ∨ 128 < data.length ∨ 256 < address % 256 + data.length then .error .badLength
  else if s.store.busy then .error .storeBusy
  else if s.sound.playsIn address data.length then .error .sampleBusy
  else .ok (s.acceptOp { kind := .write, address := address, count := data.length, data := data, begun := none,
                         clamped := false }, address)

/-- The byte count of a read (R130). -/
def readCount (address count : Nat) : Nat := min (clampTo 1 128 count) (flashSize - address)

/-- STORE_READ (R128, R130). -/
def State.storeRead (s : State) (address count : Nat) : Except Result State :=
  if s.store.busy then .error .storeBusy
  else .ok (s.acceptOp { kind := .read, address := address, count := readCount address count, data := [],
                         begun := none, clamped := readCount address count != count })

/-- The flash after an erase or write has run to its end (R129). -/
def StoreOp.apply (op : StoreOp) (flash : List Host.Cell) : List Host.Cell :=
  match op.kind with
  | .erase => Memory.erase flash op.address op.count
  | .write => Memory.program flash op.address op.data
  | .read => flash

/-- The record emptied, and the port in its next state. -/
def State.leaveOp (s : State) (port : PortState) : State :=
  { s with store := { s.store with op := none, port := port } }

/-- A status of the flash during an erase or write (R129): ready completes it, and 2,000 ms of busy ends it with
TIMEOUT, which leaves its bytes unknown (assumption 8). -/
def State.storePoll (s : State) (ready : Bool) : State :=
  match s.store.port, s.store.op with
  | .store, some op =>
    match op.kind, op.begun with
    | .read, _ => s
    | _, none => s
    | _, some t =>
      if ready then
        (({ s with flash := op.apply s.flash }).leaveOp .idle).notify (.storeDone op.kind op.address false)
      else if t + 2000 * ticksPerMs ≤ s.now then
        ((s.disturbFlash op).leaveOp .waiting).notify (.storeDone op.kind op.address true)
      else s
  | _, _ => s

/-- A status of the flash while the port waits for it (R131). -/
def State.waitingPoll (s : State) (ready : Bool) : State :=
  if s.store.port = .waiting ∧ ready then { s with store := { s.store with port := .idle } } else s

end Sys2Proof.Machine
end

