-- ==== Sys2Proof/Machine/Sound.lean ====
section
/-! DEFINITION. The Sound Engine: starts, restarts, releases and ends of voices, chuffs, the ambient loop, scenes and the
resume stack (chapter 6). -/

namespace Sys2Proof.Machine

/-! ## Voices (R99, R100) -/

/-- A voice for a cue (R100). -/
def CueEntry.voice (c : CueEntry) (content : Content) (cls : CueClass) (host : Bool) (sample : SampleEntry)
    (position : Nat) : Voice :=
  { content := some content, host := host, cls := cls, priority := c.priority, sample := sample, gain := c.gain,
    gainMode := c.gainMode, release := c.release, position := position, horn := c.horn, firing := c.firing }

/-- A voice for a chuff (R110), with the chuff gain copied at the start (assumption 46) and priority 0 (assumption 32). -/
def chuffVoice (gain : Nat) (sample : SampleEntry) : Voice :=
  { content := some .chuff, host := false, cls := .oneShot, priority := 0, sample := sample, gain := gain,
    gainMode := .load, release := 0, position := 0, horn := false, firing := false }

/-- Voice `i` starts, restarts or resumes with the record `v`: PLAYING at its position, multiplier 256, waiting for its
first line, its gain evaluated, at the end of the start list, its first line asked for (R100, R115, R122, R123). -/
def State.startVoice (s : State) (i : Fin 8) (v : Voice) : State :=
  let v := ({ v with state := .playing, multiplier := 256, waiting := true }).evaluated s.motion
  let s := (s.setVoice i v).askFirst i v
  { s with sound := { s.sound with order := s.sound.order.erase i ++ [i] } }

/-- Voice `i` becomes FREE and leaves the start list; its buffers are emptied (R100, R122). -/
def State.freeVoice (s : State) (i : Fin 8) : State :=
  let s := (s.setVoice i {}).emptyBuffers i
  { s with sound := { s.sound with order := s.sound.order.erase i } }

/-- CUE_DONE for a record that played or was to play a cue of origin HOST (R108). -/
def State.notifyDone (s : State) (v : Voice) (i : Fin 8) (cause : CueEnd) : State :=
  match v.host, v.content with
  | true, some (.cue n) => s.notify (.cueDone n i.val cause)
  | _, _ => s

/-- Whether a voice is a general voice (R99). -/
def Sound.general (n : Sound) (i : Fin 8) : Bool := decide (n.reserve < i.val)

/-- Whether a voice is a chuff voice (R99). -/
def Sound.chuffRole (n : Sound) (i : Fin 8) : Bool := decide (1 ≤ i.val) && decide (i.val ≤ n.reserve)

/-- Whether a voice holds a cue: its content in PLAYING (R102). -/
def Voice.holds (v : Voice) (cue : Nat) : Bool := (v.state == VoiceState.playing) && (v.content == some (.cue cue))

/-- Whether a record is a scene (R113). -/
def Voice.isScene (v : Voice) : Bool :=
  match v.content with
  | some (.cue _) => v.cls == .scene
  | some (.ambient _ _) => false
  | some .chuff => false
  | none => false

/-- The Sample Table entry a slot names. -/
def Tables.sampleAt (t : Tables) (slot : Nat) : SampleEntry := t.sample.getD slot SampleEntry.empty

/-- The Cue Table entry of a cue. -/
def Tables.cueAt (t : Tables) (cue : Nat) : CueEntry := t.cue.getD cue (CueEntry.defaultFor cue)

/-! ## The ambient loop (R111, R112) -/

/-- The cue `cue` is started as the ambient loop at a position, unless a test of R101 refuses it; a position outside the
sample starts from 0 (R112, R114). -/
def State.startAmbient (s : State) (cue position : Nat) : State :=
  let c := s.tables.cueAt cue
  let e := s.tables.sampleAt c.slot
  let last := match e.loop with
    | some l => l.stop
    | none => e.length
  if s.supply.state = .depleted ∨ e.length = 0 ∨ s.store.blocks e then s
  else s.startVoice 0 (c.voice (.ambient cue s.sound.ambient) .loop false e (if position < last then position else 0))

/-- The wanted ambient cue (R111). -/
def State.wantedAmbient (s : State) : Option Nat := s.tables.ambient.wanted s.sound.ambient

/-- The wanted ambient cue, if any, is started from position 0. -/
def State.startWanted (s : State) : State :=
  match s.wantedAmbient with
  | none => s
  | some cue => s.startAmbient cue 0

/-- Whether an ambient update is made: in RUN, not DEPLETED, no scene on voice 0 (R112). -/
def State.ambientAllowed (s : State) : Bool :=
  (s.mode == .run) && (s.supply.state != .depleted) && !(s.sound.voices[(0 : Fin 8)].isScene)

/-- Whether the ambient content of a voice is the wanted cue. -/
def Voice.playsAmbient (v : Voice) (wanted : Option Nat) : Bool :=
  match v.content, wanted with
  | some (.ambient n _), some w => n == w
  | _, _ => false

/-- An ambient update (R112). A loop whose release is 0, or that has sounded nothing yet, is free at once (R105), and
the end of its release makes the update again, which finds voice 0 FREE. -/
def State.ambientUpdate (s : State) : State :=
  if s.ambientAllowed then
    let v := s.sound.voices[(0 : Fin 8)]
    match v.state with
    | .free => s.startWanted
    | .releasing => s
    | .playing =>
      if v.playsAmbient s.wantedAmbient then s
      else if v.release = 0 ∨ v.waiting then (s.freeVoice 0).startWanted
      else s.setVoice 0 { v with state := .releasing, multiplier := 256 }
  else s

/-! ## The end of a scene (R114) -/

/-- Step 2 and 3 of R114 over the stack as it stands: a context that cannot be resumed is passed over. -/
def State.resumeFrom (s : State) : List Voice → State
  | [] => ({ s with sound := { s.sound with stack := [] } }).ambientUpdate
  | c :: rest =>
    let s := { s with sound := { s.sound with stack := rest } }
    match c.content with
    | some (.ambient cue state) =>
      if s.mode = .config then s
      else if s.wantedAmbient = some cue ∧ s.sound.ambient = state then s.startAmbient cue c.position
      else s.startWanted
    | _ =>
      if s.store.blocks c.sample then
        ((s.countSound (fun k => { k with sampleBusy := bump k.sampleBusy })).notifyDone c 0 .refused).resumeFrom rest
      else s.startVoice 0 c

/-- The end of a scene, voice 0 being FREE already (R114). A pending cue is started as a scene, whatever class its
entry now has (assumption 19). -/
def State.sceneEnd (s : State) : State :=
  match s.sound.pendingScene with
  | none => s.resumeFrom s.sound.stack
  | some p =>
    let s := { s with sound := { s.sound with pendingScene := none } }
    let c := s.tables.cueAt p.cue
    let e := s.tables.sampleAt c.slot
    let v := c.voice (.cue p.cue) .scene p.host e 0
    if e.length = 0 then
      let s := s.countSound (fun k => { k with noSample := bump k.noSample })
      (s.notifyDone v 0 .refused).resumeFrom s.sound.stack
    else if s.store.blocks e then
      let s := s.countSound (fun k => { k with sampleBusy := bump k.sampleBusy })
      (s.notifyDone v 0 .refused).resumeFrom s.sound.stack
    else s.startVoice 0 v

/-! ## Ends and releases (R104, R105) -/

/-- Voice `i` ends: it becomes FREE, its CUE_DONE is sent, and on voice 0 the end of a scene or of an ambient loop is
handled (R104, R105, R108, R112, R114). -/
def State.endVoice (s : State) (i : Fin 8) (cause : CueEnd) : State :=
  let v := s.sound.voices[i]
  let s := (s.freeVoice i).notifyDone v i cause
  if i.val = 0 then (if v.isScene then s.sceneEnd else s.ambientUpdate) else s

/-- A voice in PLAYING enters RELEASING, or becomes FREE at once (R105). One that still waits for its first line is freed
whatever its release; its CUE_DONE has cause RELEASED too, although that row of R108 names only a release that ended and a
release of 0 (DESIGN CHOICE, unsafe, assumption 59). -/
def State.releaseVoice (s : State) (i : Fin 8) : State :=
  let v := s.sound.voices[i]
  match v.state with
  | .playing =>
    if v.release = 0 ∨ v.waiting then s.endVoice i .released
    else s.setVoice i { v with state := .releasing, multiplier := 256 }
  | .free => s
  | .releasing => s

/-- The voices of a list are released one after another, by voice index for every caller (assumption 14). -/
def State.releaseVoices (s : State) : List (Fin 8) → State
  | [] => s
  | i :: rest => (s.releaseVoice i).releaseVoices rest

/-- The general voices that hold a cue with class LOOP (R105). -/
def Sound.loopHolders (n : Sound) (cue : Nat) : List (Fin 8) :=
  (List.finRange 8).filter (fun i => n.general i && n.voices[i].holds cue && (n.voices[i].cls == .loop))

/-- The voices a HALT_CUE acts on (R106). -/
def Sound.haltHolders (n : Sound) (cue : Nat) : List (Fin 8) :=
  (List.finRange 8).filter (fun i =>
    n.voices[i].holds cue && (n.general i || (decide (i.val = 0) && n.voices[i].isScene)))

/-- The cue release of a function turned off (R89, R105). -/
def State.releaseCue (s : State) (cue : Nat) : State := s.releaseVoices (s.sound.loopHolders cue)

/-! ## General starts (R101 to R103) -/

/-- What a cue start came to: a refusal by test 2 or 3 of R101, or an outcome of R107 with the voice taken. -/
inductive StartResult where
  | refused (result : Result)
  | outcome (o : CueOutcome) (voice : Option (Fin 8))
deriving DecidableEq, Repr

/-- The voice that R103 takes: the lowest FREE general voice, else the oldest of the lowest priority below the new
cue's. -/
def Sound.lowest (n : Sound) : List (Fin 8) → Option (Fin 8)
  | [] => none
  | i :: rest =>
    match n.lowest rest with
    | none => some i
    | some j => if n.voices[j].priority < n.voices[i].priority then some j else some i

/-- The FREE general voice of lowest index (R103 step 1). -/
def Sound.freeGeneral (n : Sound) : Option (Fin 8) :=
  (List.finRange 8).find? (fun i => n.general i && !n.voices[i].active)

/-- The general voice to be stolen by a cue of a priority (R103 step 2). -/
def Sound.victim (n : Sound) (priority : Nat) : Option (Fin 8) :=
  n.lowest (n.order.filter (fun i => n.general i && decide (n.voices[i].priority < priority)))

/-- The general voice latest in the start list that holds a cue (R102). -/
def Sound.latestHolder (n : Sound) (cue : Nat) : Option (Fin 8) :=
  n.order.reverse.find? (fun i => n.general i && n.voices[i].holds cue)

/-- A start takes a voice by R103. -/
def State.takeVoice (s : State) (v : Voice) : State × StartResult :=
  match s.sound.freeGeneral with
  | some i => (s.startVoice i v, .outcome .started (some i))
  | none =>
    match s.sound.victim v.priority with
    | some i => ((s.notifyDone s.sound.voices[i] i .stolen).startVoice i v, .outcome .started (some i))
    | none => (s.countSound (fun k => { k with cueDropped := bump k.cueDropped }), .outcome .dropped none)

/-- A restart of the voice `i`, with CUE_DONE for an old start of origin HOST where the new one is not (R102, R113). The
outcome names the restarted voice, which a PLAY_CUE reply then carries: R107 has the reply carry the voice taken, where one was
taken, and gives no voice for RESTARTED (DESIGN CHOICE, unsafe, assumption 54). -/
def State.restartVoice (s : State) (i : Fin 8) (v : Voice) : State × StartResult :=
  let old := s.sound.voices[i]
  let s := if v.host then s else s.notifyDone old i .restarted
  (s.startVoice i v, .outcome .restarted (some i))

/-- A start of a ONE_SHOT or LOOP cue that has passed tests 1 to 3 of R101: test 4, and the restart policy (R102). -/
def State.startGeneral (s : State) (cue : Nat) (c : CueEntry) (e : SampleEntry) (host : Bool) : State × StartResult :=
  let v := c.voice (.cue cue) c.cls host e 0
  match c.restart, s.sound.latestHolder cue with
  | .ignore, some _ => (s.countSound (fun k => { k with cueDropped := bump k.cueDropped }), .outcome .ignored none)
  | .restart, some i => s.restartVoice i v
  | _, _ => s.takeVoice v

/-! ## Scene starts (R113) -/

/-- The depth of the resume stack (R113). -/
def stackDepth : Nat := 4

/-- A start of a SCENE cue that has passed tests 1 to 3 of R101, judged against voice 0 (R113). -/
def State.startScene (s : State) (cue : Nat) (c : CueEntry) (e : SampleEntry) (host : Bool) : State × StartResult :=
  let v := c.voice (.cue cue) .scene host e 0
  let z := s.sound.voices[(0 : Fin 8)]
  match z.state with
  | .playing =>
    if z.isScene ∧ z.holds cue ∧ c.restart = .ignore then
      (s.countSound (fun k => { k with cueDropped := bump k.cueDropped }), .outcome .ignored none)
    else if z.isScene ∧ z.holds cue ∧ c.restart = .restart then s.restartVoice 0 v
    else if s.sound.stack.length < stackDepth then
      ({ s with sound := { s.sound with stack := z :: s.sound.stack } }.startVoice 0 v, .outcome .started (some 0))
    else
      match s.sound.pendingScene with
      | none =>
        ({ s with sound := { s.sound with pendingScene := some { cue := cue, host := host } } }, .outcome .pending none)
      | some _ => (s.countSound (fun k => { k with sceneDropped := bump k.sceneDropped }), .outcome .sceneDropped none)
  | .releasing =>
    ((if z.isScene then s.notifyDone z 0 .cut else s).startVoice 0 v, .outcome .started (some 0))
  | .free => (s.startVoice 0 v, .outcome .started (some 0))

/-- A cue start (R101, R113), with what it came to. -/
def State.startCue (s : State) (cue : Nat) (host : Bool) : State × StartResult :=
  let c := s.tables.cueAt cue
  let e := s.tables.sampleAt c.slot
  if s.supply.state = .depleted then
    (s.countSound (fun k => { k with cueDropped := bump k.cueDropped }), .outcome .dropped none)
  else if e.length = 0 then (s.countSound (fun k => { k with noSample := bump k.noSample }), .refused .noSample)
  else if s.store.blocks e then
    (s.countSound (fun k => { k with sampleBusy := bump k.sampleBusy }), .refused .sampleBusy)
  else
    match c.cls with
    | .scene => s.startScene cue c e host
    | .oneShot => s.startGeneral cue c e host
    | .loop => s.startGeneral cue c e host

/-- HALT_CUE: the count of voices released, and the state after (R106). -/
def State.haltVoices (s : State) (cue : Nat) : State × Nat :=
  let l := s.sound.haltHolders cue
  (s.releaseVoices l, l.length)

/-! ## Chuffs (R110) -/

/-- The speed band of a demand code (R110 step 1). -/
def ChuffTable.band (t : ChuffTable) (demandCode : Nat) : Nat :=
  flagCode (decide (t.threshold1 ≤ demandCode)) + flagCode (decide (t.threshold2 ≤ demandCode)) +
    flagCode (decide (t.threshold3 ≤ demandCode))

/-- The chuff voice taken: the lowest FREE one, else the oldest (R110 step 5). -/
def Sound.chuffVictim (n : Sound) : Option (Fin 8) :=
  match (List.finRange 8).find? (fun i => n.chuffRole i && !n.voices[i].active) with
  | some i => some i
  | none => n.order.find? (fun i => n.chuffRole i)

/-- A chuff event at the Sound Engine (R110). A cue of origin HOST left on a chuff voice and reused sends CUE_DONE with
cause CUT (assumption 18). -/
def State.chuff (s : State) : State :=
  if s.mode = .run ∧ s.supply.state ≠ .depleted ∧ s.demandCode > 0 then
    let t := s.tables.chuff
    match t.slots.getD (3 * t.band s.demandCode + s.motion.band.code) none with
    | none => s
    | some slot =>
      let e := s.tables.sampleAt slot
      if e.length = 0 then s.countSound (fun k => { k with noSample := bump k.noSample })
      else if s.store.blocks e then s.countSound (fun k => { k with sampleBusy := bump k.sampleBusy })
      else
        match s.sound.chuffVictim with
        | none => s
        | some i => (s.notifyDone s.sound.voices[i] i .cut).startVoice i (chuffVoice t.gain e)
  else s

/-! ## Playing on (R104, R105, R124) -/

/-- Where a voice's position goes at an output sample (R104): its end, or the next position and whether it jumps back. -/
def Voice.nextPosition (v : Voice) : Option (Nat × Bool) :=
  match v.cls, v.sample.loop with
  | .loop, some l => if v.position + 1 ≥ l.stop then some (l.first, true) else some (v.position + 1, false)
  | .loop, none => if v.position + 1 ≥ v.sample.length then some (0, true) else some (v.position + 1, false)
  | .oneShot, _ => if v.position + 1 ≥ v.sample.length then none else some (v.position + 1, false)
  | .scene, _ => if v.position + 1 ≥ v.sample.length then none else some (v.position + 1, false)

/-- The release multiplier after a line boundary (R105). -/
def Voice.faded (v : Voice) : Nat :=
  match v.state with
  | .releasing => v.multiplier - ceilDiv 512 v.release
  | .playing => v.multiplier
  | .free => v.multiplier

/-- A line boundary of voice `i`, whose position has moved already: the release, the gain, the buffers (R104, R105,
R115, R124). -/
def State.lineBoundary (s : State) (i : Fin 8) : State :=
  let v := s.sound.voices[i]
  if v.faded = 0 then s.endVoice i .released
  else
    let v := ({ v with multiplier := v.faded }).evaluated s.motion
    let p := s.store.buffers[i].boundary v s.now
    let s := (s.setVoice i v).setBuffers i p.1
    if p.2 then s.countSound (fun k => { k with underrun := bump k.underrun }) else s

/-- Voice `i` advances one position (R104, R132). -/
def State.advanceVoice (s : State) (i : Fin 8) : State :=
  let v := s.sound.voices[i]
  if v.active && !v.waiting then
    match v.nextPosition with
    | none => s.endVoice i .ended
    | some (position, jumped) =>
      let s := s.setVoice i { v with position := position }
      if jumped || (v.lineOf position != v.line) then s.lineBoundary i else s
  else s

/-! ## Depletion and modes (R117, R118) -/

/-- The CUE_DONE notices of the discarded contexts and cut voices (R117). -/
def State.notifyCut (s : State) : List (Voice × Fin 8) → State
  | [] => s
  | p :: rest => (s.notifyDone p.1 p.2 .cut).notifyCut rest

/-- Everything R117 reports: the voices in PLAYING or RELEASING in index order, the pending scene, the stack from the top
down. -/
def Sound.discarded (n : Sound) : List (Voice × Fin 8) :=
  ((List.finRange 8).filter (fun i => n.voices[i].active)).map (fun i => (n.voices[i], i)) ++
  (match n.pendingScene with
    | none => []
    | some p => [({ content := some (.cue p.cue), host := p.host }, 0)]) ++
  n.stack.map (fun v => (v, 0))

/-- Every voice FREE, the start list, the stack and the pending slot empty, every buffer EMPTY (R117, R118, R122). -/
def State.silence (s : State) : State :=
  { s with sound := { s.sound with voices := Vector.replicate 8 {}, order := [], stack := [], pendingScene := none },
           store := { s.store with buffers := Vector.replicate 8 {} } }

/-- The cut of every voice on depletion (R117). -/
def State.cutVoices (s : State) : State := (s.notifyCut s.sound.discarded).silence

/-- The voice roles are set from the CHUFF table (R99), and the ambient state is STOPPED (R111). -/
def State.setRoles (s : State) : State :=
  { s with sound := { s.sound with reserve := s.tables.chuff.reserve, ambient := .stopped } }

/-- The ambient state is derived at a regulation step, and an ambient update is made (R111, R112). -/
def State.ambientStep (s : State) : State :=
  ({ s with sound := { s.sound with ambient := ambientOf s.motion } }).ambientUpdate

end Sys2Proof.Machine
end

