-- ==== Sys2Proof/Machine/Cadence.lean ====
section
/-! DEFINITION. The Cadence Unit: axle edges, revolutions, chuff phasing, synthetic cadence, the sensor watch
(chapter 3). -/

namespace Sys2Proof.Machine

/-- The Cadence Record replaced. -/
def State.withCadence (s : State) (c : Cadence) : State := { s with cadence := c }

/-! ## Revolutions and chuffs (R46 to R48) -/

/-- A chuff event at the Sound Engine and the Smoke Unit (R48). -/
def State.raiseChuff (s : State) (chuffInterval : Nat) : State := s.chuff.puff chuffInterval

/-- The chuff interval of a revolution interval (R47 step 3). -/
def chuffIntervalOf (revolution chuffs : Nat) : Nat := max 1 (revolution / chuffs)

/-- The chuffs remaining in the revolution are dropped (R45, R50, R52). -/
def Cadence.dropChuffs (c : Cadence) : Cadence := { c with chuffsLeft := 0, chuffTimer := none }

/-- The phasing of a new revolution of length `revolution`, with `chuffs` chuffs (R47 steps 1 to 5, but for the chuff
itself). -/
def Cadence.phase (c : Cadence) (revolution chuffs now : Nat) : Cadence :=
  let interval := chuffIntervalOf revolution chuffs
  { c with chuffsInUse := chuffs, chuffInterval := some interval, chuffsLeft := chuffs - 1,
           chuffTimer := if 1 < chuffs then some { since := now, ticks := interval * ticksPerTenth } else none }

/-- A revolution event for the revolution interval `revolution`: the count, the phasing, the chuff with index 0, and
the event at Operator Control (R46, R47, R48). -/
def State.revolution (s : State) (revolution : Nat) : State :=
  let c := { s.cadence with revCount := (s.cadence.revCount + 1) % 4294967296 }
  let s := s.withCadence (c.phase revolution s.tables.cadence.chuffs s.now)
  (s.raiseChuff (chuffIntervalOf revolution s.tables.cadence.chuffs)).countRevolution

/-- A chuff timer expiry (R47). -/
def State.chuffExpiry (s : State) : State :=
  match s.cadence.chuffTimer with
  | none => s
  | some t =>
    if t.due s.now then
      let interval := s.cadence.chuffInterval.getD 1
      let left := s.cadence.chuffsLeft - 1
      let timer := if 0 < left then some (s.timerTenths interval) else none
      (s.withCadence { s.cadence with chuffsLeft := left, chuffTimer := timer }).raiseChuff interval
    else s

/-! ## The axle sensor (R44 to R46) -/

/-- Whether the axle sensor input is sampled: in RUN, the sensor mode SENSOR or AUTO (R44). -/
def State.samplesAxle (s : State) : Bool := (s.mode == .run) && (s.tables.cadence.sensorMode != .synthetic)

/-- The wheel is taken as stopped (R45). -/
def Cadence.stop (c : Cadence) : Cadence :=
  { c with revInterval := none, chuffInterval := none, chuffsLeft := 0, chuffTimer := none, edges := 0, intervalSum := 0,
           startAwaited := true }

/-- The capture timer reaches 65535 (R45). -/
def Cadence.saturate (c : Cadence) : Cadence :=
  let c := { c with captureFrom := none }
  match c.inUse with
  | .sensor => c.stop
  | .synthetic => c

/-- The saturation of a running capture timer that stands at 65535 at `now` (R45). An edge that finds it so takes the
saturation first (assumption 22). -/
def Cadence.overdue (c : Cadence) (now : Nat) : Cadence :=
  if c.captureFrom.isSome ∧ c.capture now = 65535 then c.saturate else c

/-- CAPTURE_TIMER_SATURATION: a running capture timer reaches 65535 (R45). -/
def State.captureSaturated (s : State) : State := s.withCadence (s.cadence.overdue s.now)

/-- The revolution interval of an interval sum (R46). -/
def revolutionInterval (sum : Nat) : Nat := clampTo 10 65535 (sum / 10)

/-- The capture of a valid edge (R44): a start edge, an edge of the revolution in progress, or the edge that raises a
revolution event. -/
def State.capture (s : State) (captured : Nat) : State :=
  let c := { s.cadence with captureFrom := some s.now }
  if c.startAwaited then s.withCadence { c with startAwaited := false, edges := 0, intervalSum := 0 }
  else
    let sum := c.intervalSum + captured
    if c.edges + 1 ≥ s.tables.cadence.edges then
      let interval := revolutionInterval sum
      (s.withCadence { c with edges := 0, intervalSum := 0, revInterval := some interval }).revolution interval
    else s.withCadence { c with edges := c.edges + 1, intervalSum := sum }

/-- A SENSOR notice for the record as it stands (R57). -/
def State.notifySensor (s : State) : State :=
  s.notify (.sensor s.cadence.faultFlag s.cadence.inUse s.cadence.revCount)

/-- A valid edge at the sensor watch: a running watch starts again from 0 ms (R51). -/
def Cadence.rewatch (c : Cadence) (now : Nat) : Cadence := { c with watch := c.watch.map (fun _ => now) }

/-- A valid edge while the sensor fault flag is set: it clears the flag, and in AUTO gives the beat back to the sensor
(R54). -/
def Cadence.recover (c : Cadence) (mode : SensorMode) : Cadence :=
  match mode with
  | .auto => { c with faultFlag := false, inUse := .sensor, revTimer := none }
  | .sensor => { c with faultFlag := false }
  | .synthetic => { c with faultFlag := false }

/-- AXLE_EDGE (R44, R46, R51, R54). The spec sets no order between the SENSOR notice of an edge that clears the flag and the
notices of the revolution that the same edge completes, which mode SENSOR allows: here the STOP_SEQUENCE notice of a COUNTING
stop, and a CUE_DONE that the chuff causes, go before it, so that it carries the revolution count after the event (R57)
(DESIGN CHOICE, unsafe, assumption 56). -/
def State.axleEdge (s : State) : State :=
  if s.samplesAxle then
    let s := s.withCadence (s.cadence.overdue s.now)
    let captured := s.cadence.capture s.now
    if captured < s.tables.cadence.debounce * 10 then s
    else
      let c := s.cadence.rewatch s.now
      if c.faultFlag then
        ((s.withCadence (c.recover s.tables.cadence.sensorMode)).capture captured).notifySensor
      else (s.withCadence c).capture captured
  else s

/-! ## Synthetic cadence (R49, R50) -/

/-- The synthetic revolution interval of an EMF code (R49). -/
def syntheticInterval (t : CadenceTable) (emf : Nat) : Option Nat :=
  if emf = 0 ∨ emf < t.emfFloor then none else some (clampTo 10 65535 (t.kc * 100 / emf))

/-- Synthetic cadence starts from stopped with a number: a revolution event, and the revolution timer (R50, R52). -/
def State.startSynthetic (s : State) (interval : Nat) : State :=
  (s.withCadence { s.cadence with revInterval := some interval, revTimer := some (s.timerTenths interval) }).revolution
    interval

/-- Synthetic cadence stops (R50). -/
def Cadence.stopSynthetic (c : Cadence) : Cadence :=
  { c.dropChuffs with revInterval := none, chuffInterval := none, revTimer := none }

/-- The measurement complete event at synthetic cadence (R49, R50). -/
def State.syntheticStep (s : State) : State :=
  match s.cadence.inUse with
  | .sensor => s
  | .synthetic =>
    match s.cadence.revInterval, syntheticInterval s.tables.cadence s.motion.emf with
    | none, some r => s.startSynthetic r
    | some _, some r => s.withCadence { s.cadence with revInterval := some r }
    | some _, none => s.withCadence s.cadence.stopSynthetic
    | none, none => s

/-- REVOLUTION_TIMER_EXPIRY (R50). -/
def State.revolutionExpiry (s : State) : State :=
  match s.cadence.revTimer, s.cadence.revInterval with
  | some t, some r =>
    if t.due s.now then (s.withCadence { s.cadence with revTimer := some (s.timerTenths r) }).revolution r else s
  | some _, none => s
  | none, _ => s

/-! ## The sensor watch (R51 to R53) -/

/-- The measurement complete event at the sensor watch (R51). -/
def Cadence.watchStep (c : Cadence) (t : CadenceTable) (emf now : Nat) : Cadence :=
  if t.sensorMode ≠ .synthetic ∧ c.faultFlag = false ∧ t.faultEmf ≠ 0 ∧ t.faultEmf ≤ emf then
    { c with watch := some (c.watch.getD now) }
  else { c with watch := none }

/-- The record after steps 1 to 4 of a sensor fault in AUTO (R52). -/
def Cadence.toSynthetic (c : Cadence) : Cadence :=
  { c.dropChuffs with faultFlag := true, edges := 0, intervalSum := 0, startAwaited := true, inUse := .synthetic }

/-- Step 5 of a sensor fault in AUTO: the revolution interval from the latest EMF code (R52), by Kc and the EMF floor as
the table holds them (assumption 43). Where it is stopped, the chuff interval becomes none (assumption 42). -/
def State.beginSynthetic (s : State) : State :=
  match syntheticInterval s.tables.cadence s.motion.emf with
  | some r => s.startSynthetic r
  | none => s.withCadence s.cadence.stopSynthetic

/-- The sensor watch expires: the sensor fault of R52 or R53. -/
def State.watchExpiry (s : State) : State :=
  match s.cadence.watch with
  | none => s
  | some _ =>
    let c := { s.cadence with watch := none }
    match s.tables.cadence.sensorMode with
    | .auto => ((s.withCadence c.toSynthetic).beginSynthetic).notifySensor
    | .sensor => (s.withCadence { c with faultFlag := true }).notifySensor
    | .synthetic => s.withCadence c

/-- A watch whose time has reached the sensor timeout of the table expires: at its time, or when a timeout written below
the time already watched is taken (R51). -/
def State.watchOverdue (s : State) : State :=
  match s.cadence.watch with
  | none => s
  | some t => if s.tables.cadence.timeout ≤ s.msSince t then s.watchExpiry else s

/-- The measurement complete event at the Cadence Unit (R49 to R51). -/
def State.cadenceStep (s : State) : State :=
  let s := s.syntheticStep
  s.withCadence (s.cadence.watchStep s.tables.cadence s.motion.emf s.now)

end Sys2Proof.Machine
end

