-- ==== Sys2Proof/Machine/Light.lean ====
section
/-! DEFINITION. The Light Unit: requests, firebox flicker, strobe, ditch lamps, fades (chapter 9). -/

namespace Sys2Proof.Machine

/-- The bit that enters the flicker generator: the exclusive-or of positions 0, 2, 3 and 5 (R150). -/
def flickerBit (g : BitVec 16) : Bool := Bool.xor (Bool.xor (g.getLsbD 0) (g.getLsbD 2)) (Bool.xor (g.getLsbD 3) (g.getLsbD 5))

/-- One advance of the flicker generator: a shift toward the low-order end (R150). -/
def flickerStep (g : BitVec 16) : BitVec 16 := (g >>> 1) ||| (if flickerBit g then 0x8000#16 else 0#16)

/-- The firebox level of a flicker value (R150). -/
def fireboxLevel (base : Nat) (g : BitVec 16) : Nat := base * (160 + g.toNat % 96) / 255

/-- The draws of a firebox update over a list of channels, in their order (R150). -/
def Light.draw (l : Light) (t : LightsTable) (firing : Bool) : List (Fin 8) → Light
  | [] => l
  | k :: rest =>
    let e := t.channels[k]
    if e.mode = .firebox then
      let g := flickerStep l.generator
      let level := fireboxLevel (if firing then 255 else e.brightness) g
      ({ l with generator := g, lamps := l.lamps.set k { l.lamps[k] with firebox := level } }).draw t firing rest
    else l.draw t firing rest

/-- The ditch phase after a light update in RUN (R152). -/
def DitchPhase.advance (d : DitchPhase) (horn : Bool) : DitchPhase :=
  if horn then
    match d with
    | .steady => .a 25
    | .a n => if n ≤ 1 then .b 25 else .a (n - 1)
    | .b n => if n ≤ 1 then .a 25 else .b (n - 1)
  else .steady

/-- Whether a channel is requested (R149). -/
def State.lampRequested (s : State) (k : Fin 8) : Bool :=
  (match s.tables.lights.channels[k].bound with
    | none => true
    | some f => (s.control.functions.getD f {}).on) ||
  (List.finRange 32).any (fun f => s.control.functions[f].on && s.tables.funcMap[f].lights.getLsbD k.val)

/-- The level of a channel's mode (R153, first stage). -/
def lampLevel (e : LampEntry) (l : Lamp) (direction : Direction) (strobeOn : Bool) (ditch : DitchPhase) : Nat :=
  match e.mode, direction, ditch with
  | .dirFwd, .rev, _ => 0
  | .dirRev, .fwd, _ => 0
  | .steady, _, _ => e.brightness
  | .dirFwd, .fwd, _ => e.brightness
  | .dirRev, .rev, _ => e.brightness
  | .firebox, _, _ => l.firebox
  | .strobe, _, _ => if strobeOn then e.brightness else 0
  | .ditchA, _, .b _ => 0
  | .ditchA, _, _ => e.brightness
  | .ditchB, _, .a _ => 0
  | .ditchB, _, _ => e.brightness

/-- The target of a level: halved by dim, then quartered by shedding (R153, second stage). -/
def scaleLevel (level : Nat) (dim : Bool) (shed : Nat) : Nat :=
  let halved := if dim then level / 2 else level
  if 2 ≤ shed then halved / 4 else halved

/-- The output moved toward the target by the fade (R153). -/
def fadeToward (output target fade : Nat) : Nat :=
  if fade = 0 then target
  else
    let step := ceilDiv 2550 fade
    if output < target then min target (output + step) else max target (output - step)

/-- The target level of a channel (R153). -/
def State.lampTarget (s : State) (k : Fin 8) : Nat :=
  if s.mode = .config ∨ s.supply.state = .depleted ∨ s.lampRequested k = false then 0
  else
    scaleLevel (lampLevel s.tables.lights.channels[k] s.light.lamps[k] s.motion.direction s.light.strobeOn s.light.ditch)
      s.control.flags.dim s.supply.shed

/-- A channel's record after step 3 of a light update (R148, R153). -/
def State.lampUpdated (s : State) (k : Fin 8) : Lamp :=
  let l := s.light.lamps[k]
  let target := s.lampTarget k
  { l with target := target, output := fadeToward l.output target s.tables.lights.channels[k].fade }

/-- Step 1 of a light update: the count, and in RUN the draws of a firebox update (R148, R150). -/
def State.lightCount (s : State) : State :=
  let count := (s.light.count + 1) % 5
  let l := { s.light with count := count }
  if count = 0 ∧ s.mode = .run then
    { s with light := l.draw s.tables.lights s.sound.firingActive (List.finRange 8) }
  else { s with light := l }

/-- Step 2 of a light update: in RUN, the ditch phase (R148, R152). -/
def State.ditchStep (s : State) : State :=
  if s.mode = .run then { s with light := { s.light with ditch := s.light.ditch.advance s.sound.hornActive } } else s

/-- Step 3 of a light update (R148, R153). -/
def State.lampStep (s : State) : State :=
  { s with light := { s.light with lamps := Vector.ofFn (fun k => s.lampUpdated k) } }

/-- A light update (R148). -/
def State.lightUpdate (s : State) : State := s.lightCount.ditchStep.lampStep

/-- The strobe phase expires: the other phase begins with its time of the table (R151). -/
def State.strobeExpiry (s : State) : State :=
  if s.light.strobe.due s.now then
    let on := !s.light.strobeOn
    let ms := if on then s.tables.lights.strobeOn else s.tables.lights.strobeOff
    { s with light := { s.light with strobeOn := on, strobe := s.timerMs ms } }
  else s

/-- Every output and target level to 0 at once (R153). -/
def State.lampsOut (s : State) : State :=
  { s with light := { s.light with lamps := s.light.lamps.map (fun l => { l with output := 0, target := 0 }) } }

/-- Entry to CONFIG at the Light Unit (R155). -/
def State.lightConfig (s : State) : State :=
  { s with light := { s.light with lamps := Vector.replicate 8 {}, ditch := .steady } }

end Sys2Proof.Machine
end

