-- ==== Sys2Proof/Machine/Supply.lean ====
section
/-! DEFINITION. The Supply Manager: the supply states, the shed level, the budget ceiling (chapter 10). -/

namespace Sys2Proof.Machine

/-- The three readings converted, rounded down and clamped (R156, R157). -/
def Supply.takeReadings (u : Supply) (trackMv : Int) (railMv currentMicroamps : Nat) : Supply :=
  { u with track := min 400 (trackMv.natAbs / 100), rail := min 400 (railMv / 100),
           current := min 20000 (currentMicroamps / 1000) }

/-- The supply cap takes a value and is mirrored into the Control Record (R76, R156). -/
def State.publishCap (s : State) (cap : Option Nat) : State :=
  ({ s with supply := { s.supply with cap := cap } }).withControl { s.control with supplyCap := cap }

/-- The state with the Supply Record replaced. -/
def State.withSupply (s : State) (u : Supply) : State := { s with supply := u }

/-- Entry to RIDE_THROUGH (R158). -/
def State.enterRideThrough (s : State) : State :=
  let s := s.publishCap (some s.control.effective)
  let s := s.withSupply { s.supply with state := .rideThrough, lowRun := 0, elapsed := 0,
                                        shed := if s.mode = .run then max 2 s.supply.shed else s.supply.shed }
  (s.countSupply (fun k => { k with rideThroughs := bump k.rideThroughs })).followBridge.smokeDecide

/-- Return to NORMAL (R159, R160): after DEPLETED the Sound Engine makes an ambient update (R112, R117). -/
def State.enterNormal (s : State) : State :=
  let depleted := s.supply.state == .depleted
  let s := s.publishCap none
  let s := (s.withSupply { s.supply with state := .normal }).followBridge.smokeDecide
  if depleted then s.ambientUpdate else s

/-- Entry to DEPLETED, with what every reader does at once (R160). -/
def State.enterDepleted (s : State) : State :=
  let s := s.publishCap (some 0)
  let s := s.withSupply { s.supply with state := .depleted, recoveryRun := 0 }
  let s := s.countSupply (fun k => { k with depletions := bump k.depletions })
  s.forceIdle.cutVoices.lampsOut.smokeDecide

/-- Step 1 of a supply sample in NORMAL (R158). -/
def State.sampleNormal (s : State) : State × Option SupplyCause :=
  if s.supply.track < s.tables.supply.rideThreshold then
    if s.supply.lowRun + 1 ≥ 2 then (s.enterRideThrough, some .dropout)
    else (s.withSupply { s.supply with lowRun := s.supply.lowRun + 1 }, none)
  else (s.withSupply { s.supply with lowRun := 0 }, none)

/-- Step 1 of a supply sample in RIDE_THROUGH (R159). -/
def State.sampleRideThrough (s : State) : State × Option SupplyCause :=
  let t := s.tables.supply
  let s := s.withSupply { s.supply with elapsed := min 5000 (s.supply.elapsed + 1) }
  if t.rideThreshold + 10 ≤ s.supply.track then (s.enterNormal, some .recovered)
  else if t.rideLimit ≤ s.supply.elapsed then (s.enterDepleted, some .rideLimit)
  else if s.supply.rail < t.railMinimum then (s.enterDepleted, some .railLow)
  else (s, none)

/-- Step 1 of a supply sample in DEPLETED (R160). -/
def State.sampleDepleted (s : State) : State × Option SupplyCause :=
  if s.tables.supply.rideThreshold + 10 ≤ s.supply.track then
    let run := s.supply.recoveryRun + 1
    let s := s.withSupply { s.supply with recoveryRun := min 50 run }
    if 50 ≤ run then (s.enterNormal, some .recovered) else (s, none)
  else (s.withSupply { s.supply with recoveryRun := 0 }, none)

/-- Step 1 of a supply sample (R157). -/
def State.sampleState (s : State) : State × Option SupplyCause :=
  match s.supply.state with
  | .normal => s.sampleNormal
  | .rideThrough => s.sampleRideThrough
  | .depleted => s.sampleDepleted

/-- The floor of the shed level (R161). -/
def SupplyState.shedFloor : SupplyState → Nat
  | .normal => 0
  | .rideThrough => 2
  | .depleted => 2

/-- The shed counting of one sample against a budget (R161). -/
def Supply.countShed (u : Supply) (budget : Nat) : Supply :=
  if budget < u.current then
    if u.overRun + 1 ≥ 20 then { u with overRun := 0, underRun := 0, shed := if u.shed < 3 then u.shed + 1 else u.shed }
    else { u with overRun := u.overRun + 1, underRun := 0 }
  else if u.current * 4 < budget * 3 then
    if u.underRun + 1 ≥ 500 then
      { u with underRun := 0, overRun := 0, shed := if u.state.shedFloor < u.shed then u.shed - 1 else u.shed }
    else { u with underRun := u.underRun + 1, overRun := 0 }
  else { u with overRun := 0, underRun := 0 }

/-- Step 2 of a supply sample (R157, R161); `changed` says that step 1 changed the supply state. -/
def State.shedStep (s : State) (changed : Bool) : State :=
  if s.mode = .run then
    let u := s.supply.countShed s.tables.supply.budget
    (s.withSupply (if changed then { u with overRun := 0, underRun := 0 } else u)).smokeDecide
  else s

/-- A SUPPLY notice of the record as it stands (R166). -/
def State.notifySupply (s : State) (cause : SupplyCause) : State :=
  let u := s.supply
  s.notify (.supply u.state u.shed u.cap u.track u.rail u.current cause)

/-- Step 3 of a supply sample: the notice, with the cause of the state where both changed (R157, R166). -/
def State.supplyNotice (s : State) (cause : Option SupplyCause) (before : Nat) : State :=
  match cause with
  | some c => s.notifySupply c
  | none =>
    if before < s.supply.shed then s.notifySupply .levelUp
    else if s.supply.shed < before then s.notifySupply .levelDown
    else s

/-- A supply sample (R157). -/
def State.supplySample (s : State) (trackMv : Int) (railMv currentMicroamps : Nat) : State :=
  let s := s.withSupply (s.supply.takeReadings trackMv railMv currentMicroamps)
  let p := s.sampleState
  let q := p.1.shedStep p.2.isSome
  q.supplyNotice p.2 p.1.supply.shed

/-- The budget ceiling after a regulation step (R163). -/
def budgetCeiling (shed drive ceiling : Nat) : Nat := if shed = 3 then max 256 (drive - 32) else min 1023 (ceiling + 16)

/-- The end of a regulation step at the Supply Manager, mirrored into the Motion Record (R163). -/
def State.budgetStep (s : State) : State :=
  let b := budgetCeiling s.supply.shed s.motion.drive s.supply.budget
  { s with supply := { s.supply with budget := b }, motion := { s.motion with budget := b } }

/-- Entry to CONFIG at the Supply Manager (R166). -/
def State.supplyConfig (s : State) : State :=
  s.withSupply { s.supply with shed := 0, overRun := 0, underRun := 0, budget := 1023 }

/-- Entry to RUN at the Supply Manager (R166). -/
def State.supplyRun (s : State) : State :=
  let s := s.withSupply { s.supply with budget := 1023 }
  match s.supply.state with
  | .normal => s
  | .rideThrough => (s.withSupply { s.supply with shed := 2 }).notifySupply .levelUp
  | .depleted => (s.withSupply { s.supply with shed := 2 }).notifySupply .levelUp

end Sys2Proof.Machine
end

