-- ==== Sys2Proof/Machine/Operator.lean ====
section
/-! DEFINITION. Operator Control: sources, owners and leases, throttles, emergency stops, functions, beacons, and the
interpretation of queued packets (chapter 5). -/

namespace Sys2Proof.Machine

/-! ## Sources, throttles, emergency stops (R79 to R87, R94) -/

/-- A change of source with its SOURCE notice; the host lease timer starts when the source becomes HOST and is stopped
when it leaves HOST (R97, R170). -/
def State.changeSource (s : State) (source : Source) (cause : ControlCause) : State :=
  let s := s.withControl { s.control with source := source }
  let lease := match source with
    | .host => some (s.timerMs s.tables.radio.hostLease)
    | .radio => none
    | .none => none
  ({ s with link := { s.link with hostLease := lease } }).notify (.source source cause)

/-- A change of owner with its OWNER notice (R97). The lease runs for lease_time while an owner is present (R83). -/
def State.changeOwner (s : State) (owner : Option Nat) (cause : ControlCause) : State :=
  let lease := match owner with
    | some _ => some (s.timerMs s.tables.radio.leaseTime)
    | none => none
  (s.withControl { s.control with owner := owner, lease := lease }).notify (.owner owner cause)

/-- The owner lease is renewed (R81, R83). -/
def State.renewLease (s : State) : State :=
  s.withControl { s.control with lease := some (s.timerMs s.tables.radio.leaseTime) }

/-- An emergency stop (R86). -/
def State.emergencyStop (s : State) (origin : EstopOrigin) : State :=
  let s := (s.withControl { s.control with estop := true }).estopSignal
  let s := s.withControl { s.control with throttle := 0, held := none }
  let s := if s.control.stopSeq = .none then s else s.endStop .estop
  s.notify (.estop origin)

/-- The loss action (R84, R94). -/
def State.lossAction (s : State) : State :=
  match s.tables.radio.lossAction with
  | .hold =>
    let v := if s.control.stopSeq = .none then s.control.throttle else s.control.resume
    s.withControl { s.control with held := some v }
  | .stop =>
    let s := s.withControl { s.control with throttle := 0 }
    if s.control.stopSeq = .none then s else s.endStop .throttleZero
  | .estop => s.emergencyStop .loss

/-- The source becomes NONE, with the loss action (R80, R83, R85). -/
def State.loseSource (s : State) (cause : ControlCause) : State := (s.changeSource .none cause).lossAction

/-- The effects of a zero throttle after its values are taken (R87). -/
def State.zeroThrottle (s : State) : State :=
  let s := if s.control.estop then (s.withControl { s.control with estop := false }).estopCleared else s
  s.zeroReported

/-- The values of a throttle from the controlling source: they go to the stop sequence while one runs, and to the
Control Record otherwise (R81, R94). -/
def State.takeValues (s : State) (speed : Nat) (direction : Direction) : State :=
  if s.control.stopSeq = .none then s.withControl { s.control with throttle := speed, request := direction }
  else if speed = 0 then
    (s.withControl { s.control with deferred := some direction, throttle := 0 }).endStop .throttleZero
  else s.withControl { s.control with deferred := some direction, resume := speed }

/-- A throttle from the controlling source (R81, R85, R87, R94). -/
def State.takeThrottle (s : State) (speed : Nat) (direction : Direction) : State :=
  let s := s.takeValues speed direction
  if speed = 0 then s.zeroThrottle else s

/-- The host's DRIVE (R85). -/
def State.driveHost (s : State) (throttle : Nat) (direction : Direction) : State :=
  let s := if s.control.source = .host then s
    else (s.withControl { s.control with held := none }).changeSource .host .drive
  s.takeThrottle (min 1023 throttle) direction

/-- RELEASE_DRIVE, and the host lease expiry (R85). -/
def State.releaseHost (s : State) (cause : ControlCause) : State :=
  if s.control.source = .host then
    (if s.control.owner.isSome then s.changeSource .radio cause else s.loseSource cause)
  else s

/-- The owner becomes absent; a source RADIO is lost with it (R80, R83). -/
def State.dropOwner (s : State) (cause : ControlCause) : State :=
  let s := s.changeOwner none cause
  if s.control.source = .radio then s.loseSource cause else s

/-- The owner lease expires (R83). -/
def State.leaseExpiry (s : State) : State :=
  match s.control.lease with
  | none => s
  | some t => if t.due s.now then s.dropOwner .lease else s

/-! ## SELECT, RELEASE, THROTTLE (R79 to R82) -/

/-- A handset that may own the part becomes, or stays, its owner (R79). -/
def State.grant (s : State) (source : Nat) : State :=
  let s := if s.control.owner.isNone then s.changeOwner (some source) .select else s.renewLease
  if s.control.source = .none then (s.withControl { s.control with held := none }).changeSource .radio .select else s

/-- A SELECT (R79). -/
def State.select (s : State) (source : Nat) : State :=
  if source ≠ 0 ∧ (s.control.owner = none ∨ s.control.owner = some source) then s.grant source
  else s.countRadio (fun k => { k with selectRefused := bump k.selectRefused })

/-- A packet from a handset that is not the owner is refused (R80, R82, R88). -/
def State.notOwner (s : State) : State := s.countRadio (fun k => { k with notOwner := bump k.notOwner })

/-- A RELEASE (R80). -/
def State.releasePacket (s : State) (source : Nat) : State :=
  if s.control.owner = some source then s.dropOwner .release else s.notOwner

/-- A THROTTLE from the owner (R81). -/
def State.ownerThrottle (s : State) (cls : PacketClass) (speed : Nat) (direction : Direction) : State :=
  let s := s.renewLease
  match s.control.source with
  | .host => s.countRadio (fun k => { k with ignoredHost := bump k.ignoredHost })
  | .none => s
  | .radio =>
    s.takeThrottle speed (if cls = .consist ∧ s.tables.radio.reversed then direction.inverse else direction)

/-- A THROTTLE (R81, R82). -/
def State.throttlePacket (s : State) (source : Nat) (cls : PacketClass) (speed : Nat) (direction : Direction) : State :=
  match s.control.owner with
  | some o => if o = source then s.ownerThrottle cls speed direction else s.notOwner
  | none =>
    if s.tables.radio.autoSelect ∧ source ≠ 0 then (s.grant source).ownerThrottle cls speed direction else s.notOwner

/-! ## Functions (R88, R89) -/

/-- One function is written (R88): a change of its state hands a cue start or a cue release to the Sound Engine (R89).
The derived flags follow at the end of the event (assumption 20). -/
def State.writeFunction (s : State) (f : Fin 32) (on : Bool) (writer : Writer) : State :=
  let before := s.control.functions[f].on
  let s := { s with control := { s.control with functions := s.control.functions.set f { on := on, writer := writer } } }
  if before = on then s
  else
    match s.tables.funcMap[f].cue with
    | none => s
    | some cue => if on then (s.startCue cue false).1 else s.releaseCue cue

/-- The derived flags are recomputed, with what follows at the effective throttle and the Smoke Unit (R77, R89, R138,
R143). -/
def State.refreshFlags (s : State) : State :=
  let before := s.control.flags.smoke
  (s.withControl { s.control with flags := deriveFlags s.control.functions s.tables.funcMap }).smokeEnableChanged before

/-- The functions of a list take the states of a FUNCTIONS packet (R88). -/
def State.writeGroup (s : State) (states : Byte) : List (Fin 32) → State
  | [] => s
  | f :: rest => (s.writeFunction f (states.getLsbD (f.val % 8)) .radio).writeGroup states rest

/-- The functions of a group, in function order (R61, R89). -/
def groupFunctions (group : Nat) : List (Fin 32) := (List.finRange 32).filter (fun f => f.val / 8 == group)

/-- A FUNCTIONS packet (R88); while no owner is present it is taken from source id 0 as well (assumption 45). -/
def State.functionsPacket (s : State) (source group : Nat) (states : Byte) : State :=
  if s.control.owner = none ∨ s.control.owner = some source then s.writeGroup states (groupFunctions group)
  else s.notOwner

/-! ## Beacons (R91 to R93) -/

/-- The earliest entry with the highest cap (R92). -/
def highestCap : List ZoneCap → Option ZoneCap
  | [] => none
  | z :: rest =>
    match highestCap rest with
    | none => some z
    | some y => if z.cap < y.cap then some y else some z

/-- The capacity of the zone caps list (R92). -/
def capCapacity : Nat := 4

/-- A CAP in the zone caps list: the list after it, and whether it was placed (R92). -/
def placeCap (caps : List ZoneCap) (z : ZoneCap) : List ZoneCap × Bool :=
  if caps.any (fun y => y.beacon == z.beacon) then (caps.map (fun y => if y.beacon = z.beacon then z else y), true)
  else if caps.length < capCapacity then (caps ++ [z], true)
  else
    match highestCap caps with
    | none => (caps, false)
    | some y => if z.cap < y.cap then (caps.erase y ++ [z], true) else (caps, false)

/-- CLEAR_CAP (R92). -/
def removeCap (caps : List ZoneCap) (beacon : Nat) : List ZoneCap := caps.filter (fun y => y.beacon != beacon)

/-- One acting entry's action, with its outcome (R91 to R93). -/
def State.runAction (s : State) (beacon : Nat) (e : BeaconEntry) : State × Bool :=
  match e.action with
  | .cue => ((s.startCue e.parameter false).1, true)
  | .cap =>
    let p := placeCap s.control.caps { beacon := beacon, cap := e.parameter }
    (s.withControl { s.control with caps := p.1 }, p.2)
  | .clearCap => (s.withControl { s.control with caps := removeCap s.control.caps e.parameter }, true)
  | .stop => s.startStop e
  | .functionOn => (s.writeFunction (Fin.ofNat 32 e.parameter) true .beacon, true)
  | .functionOff => (s.writeFunction (Fin.ofNat 32 e.parameter) false .beacon, true)

/-- Whether a qualifier admits a direction (R91). -/
def Qualifier.admits (q : Qualifier) (d : Direction) : Bool :=
  match q, d with
  | .any, _ => true
  | .fwd, .fwd => true
  | .rev, .rev => true
  | .fwd, .rev => false
  | .rev, .fwd => false

/-- Whether a Beacon Table entry matches a beacon id; id 0 is unused (R91). -/
def BeaconEntry.matchesId (e : BeaconEntry) (beacon : Nat) : Bool := (e.id == beacon) && (beacon != 0)

/-- The runtime of a Beacon Table entry replaced. -/
def State.setBeacon (s : State) (k : Fin 16) (r : BeaconRuntime) : State :=
  { s with control := { s.control with beacons := s.control.beacons.set k r } }

/-- The entries of a list at a hearing of a beacon: the state after, and the records of those that acted (R91). -/
def State.hearEntries (s : State) (beacon : Nat) : List (Fin 16) → State × List BeaconRecord
  | [] => (s, [])
  | k :: rest =>
    let e := s.tables.beacon[k]
    if e.matchesId beacon then
      let armed := s.control.beacons[k].armed
      if armed && e.qualifier.admits s.motion.direction then
        let p := (s.setBeacon k { armed := false, unheard := some s.now }).runAction beacon e
        let q := p.1.hearEntries beacon rest
        (q.1, { index := k.val, action := e.action, done := p.2 } :: q.2)
      else (s.setBeacon k { armed := armed, unheard := some s.now }).hearEntries beacon rest
    else s.hearEntries beacon rest

/-- A BEACON packet (R91). Its notice goes after those that the actions raise (assumption 14). -/
def State.beaconPacket (s : State) (beacon : Nat) : State :=
  if (List.finRange 16).any (fun k => s.tables.beacon[k].matchesId beacon) then
    let p := s.hearEntries beacon (List.finRange 16)
    match p.2 with
    | [] => p.1
    | r :: rs => p.1.notify (.beacon beacon (r :: rs))
  else s.countRadio (fun k => { k with beaconUnknown := bump k.beaconUnknown })

/-- An unheard timer reaches the re-arm time: the entry is armed and the timer stops (R91). -/
def State.rearm (s : State) (k : Fin 16) : State :=
  match s.control.beacons[k].unheard with
  | none => s
  | some t =>
    if s.tables.beacon[k].rearm ≤ s.msSince t then s.setBeacon k { armed := true, unheard := none } else s

/-! ## Interpretation (R70, R78) -/

/-- The cue starts and releases a FUNCTIONS packet would hand over (R78). -/
def State.functionsCost (s : State) (group : Nat) (states : Byte) : Nat :=
  ((groupFunctions group).filter (fun f =>
    (s.control.functions[f].on != states.getLsbD (f.val % 8)) && s.tables.funcMap[f].cue.isSome)).length

/-- The cue starts and releases the entries of a list would hand over at a hearing, with the function states as the
actions before them leave them (R78). -/
def State.hearingCost (s : State) (beacon : Nat) (on : Vector Bool 32) : List (Fin 16) → Nat
  | [] => 0
  | k :: rest =>
    let e := s.tables.beacon[k]
    let acts := e.matchesId beacon && s.control.beacons[k].armed && e.qualifier.admits s.motion.direction
    let f : Fin 32 := Fin.ofNat 32 e.parameter
    let change (v : Bool) : Nat :=
      (if on[f] != v && s.tables.funcMap[f].cue.isSome then 1 else 0) + s.hearingCost beacon (on.set f v) rest
    if acts then
      match e.action with
      | .cue => 1 + s.hearingCost beacon on rest
      | .functionOn => change true
      | .functionOff => change false
      | .cap => s.hearingCost beacon on rest
      | .clearCap => s.hearingCost beacon on rest
      | .stop => s.hearingCost beacon on rest
    else s.hearingCost beacon on rest

/-- The count of cue starts and releases that fixes an interpretation's time (R78). -/
def State.handOvers (s : State) (e : QueueEntry) : Nat :=
  match e.packet with
  | .throttle _ _ => 0
  | .select => 0
  | .release => 0
  | .functions group states => s.functionsCost group states
  | .beacon => s.hearingCost e.source (s.control.functions.map (fun f => f.on)) (List.finRange 16)

/-- The ticks of an interpretation: 250 µs, and 2 ms for each hand-over to the Sound Engine (R78). -/
def interpretationTicks (handOvers : Nat) : Nat := 500 + 4000 * handOvers

/-- Operator Control takes the head of the inbound queue when it is idle; a queue left empty clears the overflow episode
flag (R69, R70, R78). -/
def State.takeNext (s : State) : State :=
  match s.control.interp, s.radio.queue with
  | none, e :: rest =>
    let timer : Timer := { since := s.now, ticks := interpretationTicks (s.handOvers e) }
    { s with control := { s.control with interp := some { entry := e, timer := timer } },
             radio := { s.radio with queue := rest, episode := if rest.isEmpty then false else s.radio.episode } }
  | _, _ => s

/-- The effects of an entry at its interpretation complete (R79 to R82, R88, R91). -/
def State.interpret (s : State) (e : QueueEntry) : State :=
  match e.packet with
  | .throttle speed direction => s.throttlePacket e.source e.cls speed direction
  | .functions group states => s.functionsPacket e.source group states
  | .select => s.select e.source
  | .release => s.releasePacket e.source
  | .beacon => s.beaconPacket e.source

/-- The interpretation complete event (R78). -/
def State.interpretationComplete (s : State) : State :=
  match s.control.interp with
  | none => s
  | some i =>
    if i.timer.due s.now then
      (({ s with control := { s.control with interp := none } }.interpret i.entry).refreshFlags).takeNext
    else s

/-- SET_FUNCTION in RUN (R88). -/
def State.setFunction (s : State) (function : Nat) (on : Bool) : State :=
  (s.writeFunction (Fin.ofNat 32 function) on .host).refreshFlags

/-- Entry to CONFIG and reset at Operator Control (R96), the supply cap being the Supply Manager's. -/
def State.controlConfig (s : State) : State :=
  { s with control := { ({} : Control) with supplyCap := s.supply.cap },
           link := { s.link with hostLease := none } }

end Sys2Proof.Machine
end

