-- ==== Sys2Proof/Machine/Radio.lean ====
section
/-! DEFINITION. The Radio Intake: burst assembly, the seven checks, the address filter, the duplicate table and the
inbound queue (chapter 4), with the layout of a burst (R183). -/

namespace Sys2Proof.Machine

/-! ## Packets (R61, R62, R183) -/

/-- The six kinds of air packet. -/
inductive PacketKind where
  | throttle | functions | estop | select | release | beacon
deriving DecidableEq, Repr

/-- R183. -/
def PacketKind.code : PacketKind → Nat
  | .throttle => 1
  | .functions => 2
  | .estop => 3
  | .select => 4
  | .release => 5
  | .beacon => 6

/-- R183. -/
def PacketKind.ofCode : Nat → Option PacketKind
  | 1 => some .throttle
  | 2 => some .functions
  | 3 => some .estop
  | 4 => some .select
  | 5 => some .release
  | 6 => some .beacon
  | _ => none

/-- The kind of a packet in the queue. -/
def Packet.kind : Packet → PacketKind
  | .throttle _ _ => .throttle
  | .functions _ _ => .functions
  | .select => .select
  | .release => .release
  | .beacon => .beacon

/-- A decoded body (R61). -/
inductive PacketBody where
  | throttle (speed : Nat) (direction : Direction)
  | functions (group : Nat) (states : Byte)
  | empty
deriving DecidableEq, Repr

/-- Check 7: the body of a kind, decoded (R61). -/
def decodeBody (kind : PacketKind) (body : List Byte) : Option PacketBody :=
  match kind, body with
  | .throttle, [h, l, d] => some (.throttle (min 1023 (bigEndian [h, l])) (Direction.ofCode d.toNat))
  | .functions, [g, states] => if g.toNat ≤ 3 then some (.functions g.toNat states) else none
  | .estop, [] => some .empty
  | .select, [] => some .empty
  | .release, [] => some .empty
  | .beacon, [] => some .empty
  | _, _ => none

/-- A packet that has passed its seven checks. -/
structure AirPacket where
  kind : PacketKind
  source : Nat
  destination : Nat
  sequence : Nat
  body : PacketBody
  rssi : Nat
deriving DecidableEq, Repr

/-- The checks 2 to 7 that a whole burst can fail (R60). -/
inductive BurstFault where
  | short | weak | lengthMismatch | badCheck | unknownKind | badBody
deriving DecidableEq, Repr

/-- A whole burst (length byte, packet, RSSI byte) through checks 2 to 7, in their order (R60). -/
def checkBurst (rssiFloor : Nat) (burst : List Byte) : Except BurstFault AirPacket :=
  let length := (burst.headD 0).toNat
  let packet := (burst.drop 1).take length
  let rssi := (burst.getD (length + 1) 0).toNat
  let bodyLength := (packet.getD 6 0).toNat
  if length < 9 then .error .short
  else if rssi < rssiFloor then .error .weak
  else if bodyLength ≠ length - 9 then .error .lengthMismatch
  else if (crc16 (packet.take (length - 2))).toNat ≠ bigEndian (packet.drop (length - 2)) then .error .badCheck
  else
    match PacketKind.ofCode (packet.getD 0 0).toNat with
    | none => .error .unknownKind
    | some kind =>
      match decodeBody kind ((packet.drop 7).take bodyLength) with
      | none => .error .badBody
      | some body =>
        .ok { kind := kind, source := bigEndian ((packet.drop 1).take 2),
              destination := bigEndian ((packet.drop 3).take 2), sequence := (packet.getD 5 0).toNat, body := body,
              rssi := rssi }

/-- A check failure counted, the error-free run reset (R60). -/
def RadioCounters.fail (k : RadioCounters) (f : BurstFault) : RadioCounters :=
  let k := { k with errorFreeRun := 0 }
  match f with
  | .short => { k with short := bump k.short }
  | .weak => { k with weak := bump k.weak }
  | .lengthMismatch => { k with lengthMismatch := bump k.lengthMismatch }
  | .badCheck => { k with badCheck := bump k.badCheck }
  | .unknownKind => { k with unknownKind := bump k.unknownKind }
  | .badBody => { k with badBody := bump k.badBody }

/-- TRUNCATED counted, the error-free run reset (R58). -/
def RadioCounters.truncate (k : RadioCounters) : RadioCounters :=
  { k with truncated := bump k.truncated, errorFreeRun := 0 }

/-! ## The address filter (R63) -/

/-- The class of a destination (R63). -/
def RadioTable.classOf (t : RadioTable) (destination : Nat) : Option PacketClass :=
  if destination = t.own then some .own
  else if t.consist ≠ 0 ∧ destination = t.consist then some .consist
  else if destination = 0 then some .broadcast
  else none

/-- Whether the filter keeps a kind of a class (R63). -/
def PacketClass.keeps (c : PacketClass) (k : PacketKind) : Bool :=
  match c, k with
  | .broadcast, .estop => true
  | .broadcast, .beacon => true
  | .broadcast, _ => false
  | .own, .beacon => false
  | .consist, .beacon => false
  | .own, _ => true
  | .consist, _ => true

/-! ## The duplicate table (R66) -/

/-- The slot that holds a source. -/
def Radio.slotOf (r : Radio) (source : Nat) : Option (Fin 8) :=
  (List.finRange 8).find? (fun k =>
    match r.duplicates[k] with
    | some e => e.source == source
    | none => false)

/-- The FREE slot of the lowest index. -/
def Radio.freeSlot (r : Radio) : Option (Fin 8) := (List.finRange 8).find? (fun k => r.duplicates[k].isNone)

/-- When a slot was last heard. -/
def Radio.heardAt (r : Radio) (k : Fin 8) : Nat :=
  match r.duplicates[k] with
  | some e => e.heard
  | none => 0

/-- The slot with the earliest last-heard time, the lowest among equals (R66). -/
def Radio.earliestSlot (r : Radio) : List (Fin 8) → Fin 8
  | [] => 0
  | [k] => k
  | k :: j :: rest =>
    let e := r.earliestSlot (j :: rest)
    if r.heardAt e < r.heardAt k then e else k

/-- The slot a new source takes (R66). -/
def Radio.newSlot (r : Radio) : Fin 8 :=
  match r.freeSlot with
  | some k => k
  | none => r.earliestSlot (List.finRange 8)

/-- An entry recorded in a slot. -/
def Radio.record (r : Radio) (k : Fin 8) (e : DuplicateEntry) : Radio :=
  { r with duplicates := r.duplicates.set k (some e) }

/-- A packet judged against the duplicate table: the table after it, and whether it is a repeat (R66). -/
def Radio.judge (r : Radio) (source sequence ms : Nat) : Radio × Bool :=
  let e : DuplicateEntry := { source := source, sequence := sequence, heard := ms }
  match r.slotOf source with
  | none => (r.record r.newSlot e, false)
  | some k => (r.record k e, (r.duplicates[k].map (fun d => d.sequence)) == some sequence)

/-! ## The inbound queue (R68, R69) -/

/-- The capacity of the inbound queue (R68). -/
def queueCapacity : Nat := 8

/-- Whether an entry is a THROTTLE of a source. -/
def QueueEntry.throttleOf (e : QueueEntry) (source : Nat) : Bool :=
  match e.packet with
  | .throttle _ _ => e.source == source
  | .functions _ _ => false
  | .select => false
  | .release => false
  | .beacon => false

/-- A newer THROTTLE over the older of the same source, in place (R68). -/
def coalesce (queue : List QueueEntry) (e : QueueEntry) : List QueueEntry :=
  queue.map (fun q => if q.throttleOf e.source then e else q)

/-- ACCEPTED counted. -/
def State.accepted (s : State) : State := s.countRadio (fun k => { k with accepted := bump k.accepted })

/-- A packet is dropped from the full queue; the first drop of an episode sends a notice (R69). -/
def State.overflow (s : State) (e : QueueEntry) : State :=
  let s := s.countRadio (fun k => { k with queueOverflow := bump k.queueOverflow })
  if s.radio.episode then s
  else
    { s with radio := { s.radio with episode := true } }.notify
      (.queueOverflow e.packet.kind.code e.source s.counters.radio.queueOverflow)

/-- A packet reaches the inbound queue (R68), and an idle Operator Control takes it at once (R70). -/
def State.enqueue (s : State) (e : QueueEntry) : State :=
  if e.throttleOf e.source ∧ s.radio.queue.any (fun q => q.throttleOf e.source) then
    ({ s with radio := { s.radio with queue := coalesce s.radio.queue e } }.countRadio
      (fun k => { k with coalesced := bump k.coalesced })).accepted
  else if s.radio.queue.length < queueCapacity then
    ({ s with radio := { s.radio with queue := s.radio.queue ++ [e] } }.accepted).takeNext
  else s.overflow e

/-! ## A checked packet (R63 to R66) -/

/-- NOT_FOR_ME counted. -/
def State.notForMe (s : State) : State := s.countRadio (fun k => { k with notForMe := bump k.notForMe })

/-- A packet of the kinds THROTTLE, FUNCTIONS, SELECT and RELEASE at the duplicate table (R66). -/
def State.judgePacket (s : State) (p : AirPacket) (cls : PacketClass) (packet : Packet) : State :=
  let j := s.radio.judge p.source p.sequence s.ms
  let s := { s with radio := j.1 }
  if j.2 then s.countRadio (fun k => { k with duplicate := bump k.duplicate })
  else s.enqueue { packet := packet, source := p.source, cls := cls, sequence := p.sequence }

/-- A packet kept by the filter goes on by its kind (R63 to R66). -/
def State.routePacket (s : State) (p : AirPacket) (cls : PacketClass) : State :=
  match p.kind, p.body with
  | .estop, _ => s.accepted.emergencyStop (.radio p.source)
  | .beacon, _ =>
    if p.rssi < s.tables.radio.beaconRssi then s.countRadio (fun k => { k with beaconFar := bump k.beaconFar })
    else s.enqueue { packet := .beacon, source := p.source, cls := cls, sequence := p.sequence }
  | .select, _ => s.judgePacket p cls .select
  | .release, _ => s.judgePacket p cls .release
  | .throttle, .throttle speed direction => s.judgePacket p cls (.throttle speed direction)
  | .functions, .functions group states => s.judgePacket p cls (.functions group states)
  | .throttle, _ => s
  | .functions, _ => s

/-- A packet that has passed its checks at the address filter (R63). -/
def State.filterPacket (s : State) (p : AirPacket) : State :=
  match s.tables.radio.classOf p.destination with
  | none => s.notForMe
  | some cls => if cls.keeps p.kind then s.routePacket p cls else s.notForMe

/-- A whole burst in RUN (R60). -/
def State.burst (s : State) (bytes : List Byte) : State :=
  match checkBurst s.tables.radio.rssiFloor bytes with
  | .error f => s.countRadio (fun k => k.fail f)
  | .ok p => (s.countRadio (fun k => { k with errorFreeRun := bump k.errorFreeRun })).filterPacket p

/-! ## The burst assembler (R58, R59, R73) -/

/-- The radio line's assembler replaced. -/
def State.assemble (s : State) (a : Assembler) : State := { s with radio := { s.radio with assembler := a } }

/-- A burst ends as TRUNCATED; only in RUN is it counted (R58, R73). -/
def State.truncated (s : State) (counted : Bool) : State :=
  if counted ∧ s.mode = .run then s.countRadio (fun k => k.truncate) else s

/-- The longest packet (R58). -/
def packetLimit : Nat := 17

/-- A byte on the radio line (R58). A burst that began in CONFIG is never counted nor checked (R73, assumption 11). -/
def State.radioByte (s : State) (byte : Byte) (stopBit : Bool) : State :=
  let s := { s with radio := { s.radio with gap := some (s.timerMs 1) } }
  match s.radio.assembler with
  | .discarding => s
  | .quiet =>
    if stopBit ∧ byte.toNat ≤ packetLimit then s.assemble (.collecting (s.mode == .run) [byte])
    else (s.truncated true).assemble .discarding
  | .collecting inRun bytes =>
    if stopBit then
      let bytes := bytes ++ [byte]
      if bytes.length ≥ (bytes.headD 0).toNat + 2 then
        let s := s.assemble .quiet
        if inRun ∧ s.mode = .run then s.burst bytes else s
      else s.assemble (.collecting inRun bytes)
    else (s.truncated inRun).assemble .discarding

/-- The radio gap timer expires (R58). -/
def State.radioGap (s : State) : State :=
  match s.radio.gap with
  | none => s
  | some t =>
    if t.due s.now then
      let s := { s with radio := { s.radio with gap := none } }
      match s.radio.assembler with
      | .collecting inRun _ => (s.truncated inRun).assemble .quiet
      | .discarding => s.assemble .quiet
      | .quiet => s
    else s

/-- An occupied entry of the duplicate table is freed when its source has been unheard for 2,000 ms (R67), both times
being whole ms rounded down (assumption 44). -/
def State.freeDuplicate (s : State) (k : Fin 8) : State :=
  match s.radio.duplicates[k] with
  | none => s
  | some e =>
    if e.heard + 2000 ≤ s.ms then { s with radio := { s.radio with duplicates := s.radio.duplicates.set k none } } else s

/-- Entry to CONFIG at the Radio Intake (R73). -/
def State.radioConfig (s : State) : State :=
  let a := match s.radio.assembler with
    | .collecting _ _ => Assembler.discarding
    | .quiet => .quiet
    | .discarding => .discarding
  { s with radio := { s.radio with assembler := a, duplicates := Vector.replicate 8 none, queue := [],
                                   episode := false } }

/-- The bytes of a burst for an air packet (R183). -/
def burstBytes (kind source destination sequence : Nat) (body : List Byte) (rssi : Byte) : List Byte :=
  let head := toBytes 1 kind ++ toBytes 2 source ++ toBytes 2 destination ++ toBytes 1 sequence ++
    toBytes 1 body.length ++ body
  toBytes 1 (body.length + 9) ++ head ++ toBytes 2 (crc16 head).toNat ++ [rssi]

end Sys2Proof.Machine
end

