-- ==== Sys2Proof/Machine/Wire.lean ====
section
/-! DEFINITION. What leaves the part on the control link: frames, notice bodies, the status record, the counters
(R173, R177 to R181). -/

namespace Sys2Proof.Machine

/-- A frame (R177): start marker, length, kind, tag, payload, check. -/
def frameBytes (kind tag : Byte) (payload : List Byte) : List Byte :=
  let body := BitVec.ofNat 8 (payload.length + 2) :: kind :: tag :: payload
  0x7E#8 :: (body ++ [crc8 body])

/-- A temperature, two's complement, 0x7FFF when it is invalid (R176). -/
def temperatureCode (t : Option Int) : Nat :=
  match t with
  | none => 0x7FFF
  | some v => (v % 65536).toNat

/-- The kind byte of a notice (R178). -/
def Notice.kind : Notice → Byte
  | .started _ => 0x40
  | .mode _ => 0x41
  | .source _ _ => 0x42
  | .owner _ _ => 0x43
  | .estop _ => 0x44
  | .tractionFault _ => 0x45
  | .smokeFault _ _ => 0x46
  | .faultCleared _ => 0x47
  | .sensor _ _ _ => 0x48
  | .beacon _ _ => 0x49
  | .stopSequence _ _ _ => 0x4A
  | .queueOverflow _ _ _ => 0x4B
  | .supply _ _ _ _ _ _ _ => 0x4C
  | .storeDone _ _ _ => 0x4D
  | .cueDone _ _ _ => 0x4E

/-- Traction Controller 0, Smoke Unit 1 (R180). -/
def FaultBlock.code : FaultBlock → Nat
  | .traction => 0
  | .smoke => 1

/-- The origin of an emergency stop: RADIO, HOST, LOSS with the source id, 0 unless RADIO (R97, R180). -/
def EstopOrigin.bytes : EstopOrigin → List Byte
  | .radio source => toBytes 1 0 ++ toBytes 2 source
  | .host => toBytes 1 1 ++ toBytes 2 0
  | .loss => toBytes 1 2 ++ toBytes 2 0

/-- A record of a BEACON notice: DONE 0, IGNORED 1 (R91, R180). -/
def BeaconRecord.bytes (r : BeaconRecord) : List Byte :=
  toBytes 1 r.index ++ toBytes 1 r.action.code ++ toBytes 1 (if r.done then 0 else 1)

/-- The body of a notice (R180). -/
def Notice.body : Notice → List Byte
  | .started cause => toBytes 1 cause.code
  | .mode m => toBytes 1 m.code
  | .source src cause => toBytes 1 src.code ++ toBytes 1 cause.code
  | .owner o cause => toBytes 2 (optionCode 0 o) ++ toBytes 1 cause.code
  | .estop origin => origin.bytes
  | .tractionFault cause => toBytes 1 cause.code
  | .smokeFault cause t => toBytes 1 cause.code ++ toBytes 2 (temperatureCode t)
  | .faultCleared block => toBytes 1 block.code
  | .sensor flag inUse count => toBytes 1 (flagCode flag) ++ toBytes 1 inUse.code ++ toBytes 4 count
  | .beacon id records => toBytes 2 id ++ toBytes 1 records.length ++ records.flatMap BeaconRecord.bytes
  | .stopSequence view resume cause =>
    toBytes 1 view.code ++ toBytes 4 view.value ++ toBytes 2 resume ++
      toBytes 1 (optionCode 255 (cause.map StopCause.code))
  | .queueOverflow kind sender count => toBytes 1 kind ++ toBytes 2 sender ++ toBytes 2 count
  | .supply state shed cap track rail current cause =>
    toBytes 1 state.code ++ toBytes 1 shed ++ toBytes 2 (optionCode 65535 cap) ++ toBytes 2 track ++ toBytes 2 rail ++
      toBytes 2 current ++ toBytes 1 cause.code
  | .storeDone kind address timeout => toBytes 1 kind.code ++ toBytes 3 address ++ toBytes 1 (flagCode timeout)
  | .cueDone cue voice cause => toBytes 1 cue ++ toBytes 1 voice ++ toBytes 1 cause.code

/-- The bytes of a frame on the line: a reply carries its request's kind with the reply marker and its tag, its result
first; a notice carries tag 0 and its timestamp first (R169, R178). -/
def Tx.wire : Tx → List Byte
  | .reply r => frameBytes (r.kind ||| 0x80#8) r.tag (toBytes 1 r.result.code ++ r.content)
  | .notice n => frameBytes n.notice.kind 0 (toBytes 4 n.time ++ n.notice.body)

/-- The status record (R173, R181). -/
def State.statusRecord (s : State) : List Byte :=
  let c := s.control
  let m := s.motion
  let view := c.stopSeq.view s.now
  toBytes 1 s.mode.code ++ toBytes 1 s.cause.code ++ toBytes 1 (flagCode s.link.lost) ++ toBytes 1 c.source.code ++
  toBytes 2 (optionCode 0 c.owner) ++ toBytes 2 c.throttle ++ toBytes 2 c.effective ++
  toBytes 1 (flagCode c.estop) ++ toBytes 1 view.code ++ toBytes 4 view.value ++
  toBytes 1 m.state.code ++ toBytes 1 (optionCode 0 (m.faultCause.map TractionFault.code)) ++ toBytes 1 m.direction.code ++
  toBytes 2 m.demandCode ++ toBytes 2 m.emf ++ toBytes 2 m.drive ++ toBytes 2 m.current ++ toBytes 1 m.band.code ++
  toBytes 2 (optionCode 0 s.cadence.revInterval) ++ toBytes 1 (flagCode s.cadence.faultFlag) ++
  toBytes 1 s.sound.activeCount ++ toBytes 1 s.sound.stack.length ++ toBytes 1 (flagCode s.sound.pendingScene.isSome) ++
  toBytes 1 s.smoke.state.code ++ toBytes 2 (temperatureCode s.smoke.temperature) ++
  toBytes 1 s.supply.state.code ++ toBytes 1 s.supply.shed

/-- The counters of group LINK in the order of R173. -/
def LinkCounters.list (k : LinkCounters) : List Nat := [k.checksum, k.framing, k.overrun]

/-- The counters of group RADIO in the order of R173. -/
def RadioCounters.list (k : RadioCounters) : List Nat :=
  [k.truncated, k.short, k.weak, k.lengthMismatch, k.badCheck, k.unknownKind, k.badBody, k.notForMe, k.beaconFar,
   k.duplicate, k.coalesced, k.queueOverflow, k.accepted, k.errorFreeRun, k.selectRefused, k.notOwner, k.ignoredHost,
   k.beaconUnknown, k.stopIgnored]

/-- The counters of group TRACTION in the order of R173. -/
def TractionCounters.list (k : TractionCounters) : List Nat := [k.overcurrentSteps, k.shortTrips, k.stalls, k.shorts]

/-- The counters of group SOUND in the order of R173. -/
def SoundCounters.list (k : SoundCounters) : List Nat :=
  [k.cueDropped, k.noSample, k.sampleBusy, k.sceneDropped, k.underrun, k.clip]

/-- The counters of group SUPPLY in the order of R173. -/
def SupplyCounters.list (k : SupplyCounters) : List Nat := [k.rideThroughs, k.depletions]

/-- The counters of a group, none for a code that is no group (R173, R179). -/
def Counters.group (k : Counters) : Nat → Option (List Nat)
  | 0 => some k.link.list
  | 1 => some k.radio.list
  | 2 => some k.traction.list
  | 3 => some k.sound.list
  | 4 => some k.supply.list
  | _ => none

/-- Every counter of a group set to 0 (R173). -/
def Counters.clear (k : Counters) : Nat → Counters
  | 0 => { k with link := {} }
  | 1 => { k with radio := {} }
  | 2 => { k with traction := {} }
  | 3 => { k with sound := {} }
  | 4 => { k with supply := {} }
  | _ => k

end Sys2Proof.Machine
end

