-- ==== Sys2Proof/Machine/Access.lean ====
section
/-! DEFINITION. READ_TABLE and WRITE_TABLE over the thirteen tables (R171, R182 and the table rules). -/

namespace Sys2Proof.Machine

/-- The count of entries of each table (R171), none for another id. -/
def entryCount (table : Nat) : Option Nat := [1, 1, 1, 32, 16, 128, 64, 1, 1, 1, 9, 1, 1][table]?

/-- Whether a table id and an entry index are in range (R171). -/
def validEntry (table index : Nat) : Bool :=
  match entryCount table with
  | none => false
  | some n => decide (index < n)

/-- LIGHTS entry 8: the strobe times, the phase, and the ms left in it (R154, R182). -/
def State.strobeEntry (s : State) : List Byte :=
  writeFields strobeRules [s.tables.lights.strobeOn, s.tables.lights.strobeOff, flagCode s.light.strobeOn,
    s.light.strobe.msLeft s.now]

/-- The bytes of an entry as they stand, for a table and an index in range (R171, R182). -/
def State.entryBytes (s : State) (table index : Nat) : List Byte :=
  match table with
  | 0 => s.tables.traction.encode
  | 1 => s.tables.cadence.encode
  | 2 => s.tables.radio.encode
  | 3 => (s.tables.funcMap.getD index (FuncEntry.defaultFor 0)).encode (s.control.functions.getD index {})
  | 4 => (s.tables.beacon.getD index BeaconEntry.defaults).encode (s.control.beacons.getD index {}).armed
  | 5 => (s.tables.sample.getD index SampleEntry.empty).encode
  | 6 => (s.tables.cue.getD index (CueEntry.defaultFor 0)).encode
  | 7 => s.tables.chuff.encode
  | 8 => s.tables.ambient.encode
  | 9 => s.tables.smoke.encode
  | 10 =>
    if index = 8 then s.strobeEntry
    else (s.tables.lights.channels.getD index (LampEntry.defaultFor 0)).encode (s.light.lamps.getD index {})
  | 11 => s.tables.supply.encode
  | _ => writeFields mixerRules [s.tables.masterVolume]

/-- The tables replaced. -/
def State.withTables (s : State) (t : Tables) : State := { s with tables := t }

/-- What a WRITE_TABLE comes to: a refusal that writes nothing, or the state after it and whether a field was
clamped. -/
abbrev WriteResult := Except Result (State × Bool)

/-- WRITE_TABLE TRACTION (R23, R171). -/
def State.writeTraction (s : State) (entry : List Byte) : WriteResult :=
  let p := TractionTable.decode entry
  let t := s.tables.traction
  let n := p.1
  if s.mode = .run ∧ ¬(n.regulation = t.regulation ∧ n.gapUs = t.gapUs ∧ n.carrier = t.carrier ∧
      n.deadTenths = t.deadTenths ∧ n.shortTrip = t.shortTrip) then .error .wrongMode
  else if n.regulation = .closedLoop ∧ n.gapUs = 0 then .error .conflict
  else .ok (s.withTables { s.tables with traction := n }, p.2)

/-- WRITE_TABLE CADENCE (R55, R171); a timeout below the time watched makes the watch expire (R51). -/
def State.writeCadence (s : State) (entry : List Byte) : WriteResult :=
  let p := CadenceTable.decode entry
  let t := s.tables.cadence
  let n := p.1
  if s.mode = .run ∧ ¬(n.sensorMode = t.sensorMode ∧ n.edges = t.edges) then .error .wrongMode
  else .ok ((s.withTables { s.tables with cadence := n }).watchOverdue, p.2)

/-- WRITE_TABLE RADIO (R71, R171). -/
def State.writeRadio (s : State) (entry : List Byte) : WriteResult :=
  let p := RadioTable.decode entry
  let t := s.tables.radio
  let n := p.1
  if s.mode = .run ∧ ¬(n.own = t.own ∧ n.consist = t.consist ∧ n.reversed = t.reversed) then .error .wrongMode
  else .ok (s.withTables { s.tables with radio := n }, p.2)

/-- WRITE_TABLE FUNCMAP: the derived flags are recomputed at once (R90). -/
def State.writeFuncMap (s : State) (index : Nat) (entry : List Byte) : WriteResult :=
  let p := FuncEntry.decode entry
  .ok ((s.withTables { s.tables with funcMap := s.tables.funcMap.setIfInBounds index p.1 }).refreshFlags, p.2)

/-- WRITE_TABLE BEACON: a written entry is armed and its unheard timer stops (R95). -/
def State.writeBeacon (s : State) (index : Nat) (entry : List Byte) : WriteResult :=
  let p := BeaconEntry.decode entry
  let s := s.withTables { s.tables with beacon := s.tables.beacon.setIfInBounds index p.1 }
  .ok ({ s with control := { s.control with beacons := s.control.beacons.setIfInBounds index {} } }, p.2)

/-- WRITE_TABLE SAMPLE (R120). -/
def State.writeSample (s : State) (index : Nat) (entry : List Byte) : WriteResult :=
  let p := SampleEntry.decode entry
  .ok (s.withTables { s.tables with sample := s.tables.sample.setIfInBounds index p.1 }, p.2)

/-- WRITE_TABLE CUE (R98). -/
def State.writeCue (s : State) (index : Nat) (entry : List Byte) : WriteResult :=
  let p := CueEntry.decode entry
  .ok (s.withTables { s.tables with cue := s.tables.cue.setIfInBounds index p.1 }, p.2)

/-- WRITE_TABLE CHUFF (R109, R171). -/
def State.writeChuff (s : State) (entry : List Byte) : WriteResult :=
  let p := ChuffTable.decode entry
  if s.mode = .run ∧ p.1.reserve ≠ s.tables.chuff.reserve then .error .wrongMode
  else .ok (s.withTables { s.tables with chuff := p.1 }, p.2)

/-- WRITE_TABLE AMBIENT (R111). -/
def State.writeAmbient (s : State) (entry : List Byte) : WriteResult :=
  let p := AmbientTable.decode entry
  .ok (s.withTables { s.tables with ambient := p.1 }, p.2)

/-- WRITE_TABLE SMOKE (R145). -/
def State.writeSmoke (s : State) (entry : List Byte) : WriteResult :=
  let p := SmokeTable.decode entry
  .ok (s.withTables { s.tables with smoke := p.1 }, p.2)

/-- WRITE_TABLE LIGHTS 0..7: a write that changes the mode to FIREBOX sets the firebox level to 0 (R154). -/
def State.writeLamp (s : State) (index : Nat) (entry : List Byte) : WriteResult :=
  let p := LampEntry.decode entry
  let before := (s.tables.lights.channels.getD index (LampEntry.defaultFor 0)).mode
  let t := { s.tables.lights with channels := s.tables.lights.channels.setIfInBounds index p.1 }
  let s := s.withTables { s.tables with lights := t }
  if p.1.mode = .firebox ∧ before ≠ .firebox then
    let l := s.light.lamps.getD index {}
    .ok ({ s with light := { s.light with lamps := s.light.lamps.setIfInBounds index { l with firebox := 0 } } }, p.2)
  else .ok (s, p.2)

/-- WRITE_TABLE LIGHTS 8: taken at the next phase that begins (R151, R154). -/
def State.writeStrobe (s : State) (entry : List Byte) : WriteResult :=
  let p := readFields strobeRules entry
  let t := { s.tables.lights with strobeOn := fieldAt p.1 0, strobeOff := fieldAt p.1 1 }
  .ok (s.withTables { s.tables with lights := t }, p.2)

/-- WRITE_TABLE SUPPLY (R165). -/
def State.writeSupply (s : State) (entry : List Byte) : WriteResult :=
  let p := SupplyTable.decode entry
  .ok (s.withTables { s.tables with supply := p.1 }, p.2)

/-- WRITE_TABLE MIXER (R133). -/
def State.writeMixer (s : State) (entry : List Byte) : WriteResult :=
  let p := readFields mixerRules entry
  .ok (s.withTables { s.tables with masterVolume := fieldAt p.1 0 }, p.2)

/-- WRITE_TABLE for a table and an index in range (R171). -/
def State.writeEntry (s : State) (table index : Nat) (entry : List Byte) : WriteResult :=
  match table with
  | 0 => s.writeTraction entry
  | 1 => s.writeCadence entry
  | 2 => s.writeRadio entry
  | 3 => s.writeFuncMap index entry
  | 4 => s.writeBeacon index entry
  | 5 => s.writeSample index entry
  | 6 => s.writeCue index entry
  | 7 => s.writeChuff entry
  | 8 => s.writeAmbient entry
  | 9 => s.writeSmoke entry
  | 10 => if index = 8 then s.writeStrobe entry else s.writeLamp index entry
  | 11 => s.writeSupply entry
  | _ => s.writeMixer entry

end Sys2Proof.Machine
end

