-- ==== Sys2Proof/Machine/Modes.lean ====
section
/-! DEFINITION. Entry to RUN, entry to CONFIG, and the resets (R172, R175 and the mode rules of each block). -/

namespace Sys2Proof.Machine

/-- The Motion Record at every reset and mode entry (R22). R22 gives the fault time no value; it becomes 0 (DESIGN CHOICE,
unsafe, assumption 6). -/
def State.motionEntry (s : State) : State := { s with motion := {} }

/-- The Cadence Record at every mode entry (R56). -/
def State.cadenceEntry (s : State) : State := s.withCadence (Cadence.entry s.tables.cadence s.cadence.revCount)

/-- Entry to CONFIG at the Bridge Driver: the gates go off, and the rest takes its reset values (R40), those that R40 does
not list by assumption 6. -/
def State.bridgeConfig (s : State) : State :=
  let s := s.enterBridge .off
  { s with bridge := { ({} : Bridge) with legA := s.bridge.legA, legB := s.bridge.legB } }

/-- Entry to RUN at the Bridge Driver: the traction period timer starts, and the bridge takes the rest mode of the
TRACTION table, or COAST in DEPLETED (R27, R40). What R40 does not list takes its reset value (assumption 6). -/
def State.bridgeRun (s : State) : State :=
  let s := { s with bridge := { ({} : Bridge) with legA := s.bridge.legA, legB := s.bridge.legB,
                                                    rest := s.tables.traction.restMode, period := some (s.timerMs 4) } }
  s.enterBridge s.wantedBridge

/-- Entry to CONFIG at the Smoke Unit (R146): off seen becomes yes while a fault is latched. R146 gives it no value while
none is latched; it becomes no (DESIGN CHOICE, unsafe, assumption 53). -/
def State.smokeConfig (s : State) : State :=
  { s with smoke := { ({} : Smoke) with latch := s.smoke.latch, offSeen := s.smoke.latch.isSome,
                                        temperature := s.smoke.temperature } }

/-- Entry to RUN at the Smoke Unit: the time stopped starts counting, and the state is decided (R146). -/
def State.smokeRun (s : State) : State := { s with smoke := { s.smoke with stoppedFrom := some s.now } }.smokeDecide

/-- Entry to RUN in every block, and the MODE notice (R172). -/
def State.enterRun (s : State) : State :=
  let s := { s with mode := .run }
  (s.motionEntry.bridgeRun.cadenceEntry.setRoles.supplyRun.smokeRun.ambientUpdate).notify (.mode .run)

/-- Entry to CONFIG in every block, and the MODE notice (R172). -/
def State.enterConfig (s : State) : State :=
  let s := { s with mode := .config }
  (s.bridgeConfig.motionEntry.cadenceEntry.radioConfig.supplyConfig.controlConfig.silence.setRoles.smokeConfig.lightConfig).notify
    (.mode .config)

/-- SET_MODE: the state after, and the result (R172). A code that is neither mode is taken as CONFIG. -/
def State.setMode (s : State) (code : Nat) : State × Result :=
  if code = 1 then (match s.mode with
    | .config => (s.enterRun, .ok)
    | .run => (s, .ok))
  else
    let result := if code = 0 then Result.ok else .okClamped
    match s.mode with
    | .config => (s, result)
    | .run => if 0 < s.demandCode then (s, .moving) else (s.enterConfig, result)

/-- A reset of the part (R175): an erase or write that was begun is cut off, and its flash bytes are not known
(R131, assumption 8); the tables are kept at RESTART alone. -/
def State.resetBy (s : State) (cause : ResetCause) : State :=
  let s := match s.store.op with
    | none => s
    | some op => s.disturbFlash op
  let tables := match cause with
    | .restart => s.tables
    | .powerOn => Tables.defaults
    | .brownout => Tables.defaults
    | .pin => Tables.defaults
  (State.afterReset cause tables s.flash s.freeCount s.pending).started

end Sys2Proof.Machine
end

