-- ==== Sys2Proof/Machine/Link.lean ====
section
/-! DEFINITION. The Link Port: the receiver, the request buffer, the dispatch of every request, the reply slot
(chapter 11). -/

namespace Sys2Proof.Machine

/-! ## Requests (R170 to R175) -/

/-- What a request comes to: its result and reply content, or nothing yet (STORE_READ). -/
abbrev Answer := State × Option (Result × List Byte)

/-- A refusal, which changes nothing and is answered with the result code alone (R169, R170). -/
def State.refuse (s : State) (r : Result) : Answer := (s, some (r, []))

/-- An answer with its content. -/
def State.answer (s : State) (r : Result) (content : List Byte) : Answer := (s, some (r, content))

/-- PING (R171). -/
def State.answerPing (s : State) : Answer := s.answer .ok (toBytes 2 0x0712 ++ toBytes 1 1)

/-- SET_MODE (R172). -/
def State.answerSetMode (s : State) (code : Byte) : Answer :=
  let p := s.setMode code.toNat
  p.1.answer p.2 []

/-- READ_TABLE (R171). -/
def State.answerReadTable (s : State) (table index : Byte) : Answer :=
  if validEntry table.toNat index.toNat then
    s.answer .ok (table :: index :: s.entryBytes table.toNat index.toNat)
  else s.refuse .noEntry

/-- WRITE_TABLE (R170, R171): the length of the entry, the range of table and index, then the table's own rule. -/
def State.answerWriteTable (s : State) (table index : Byte) (entry : List Byte) : Answer :=
  if (entryLength table.toNat).isSome ∧ entryLength table.toNat ≠ some entry.length then s.refuse .badLength
  else if validEntry table.toNat index.toNat then
    match s.writeEntry table.toNat index.toNat entry with
    | .error r => s.refuse r
    | .ok (t, clamped) =>
      t.answer (if clamped then .okClamped else .ok) (table :: index :: t.entryBytes table.toNat index.toNat)
  else s.refuse .noEntry

/-- DRIVE (R85, R170). -/
def State.answerDrive (s : State) (throttle : Nat) (direction : Byte) : Answer :=
  match s.mode with
  | .config => s.refuse .wrongMode
  | .run =>
    (s.driveHost throttle (Direction.ofCode direction.toNat)).answer (if 1023 < throttle then .okClamped else .ok) []

/-- RELEASE_DRIVE (R85, R170). -/
def State.answerReleaseDrive (s : State) : Answer :=
  match s.mode with
  | .config => s.refuse .wrongMode
  | .run => (s.releaseHost .releaseDrive).answer .ok []

/-- STOP (R86, R170). -/
def State.answerStop (s : State) : Answer :=
  match s.mode with
  | .config => s.refuse .wrongMode
  | .run => (s.emergencyStop .host).answer .ok []

/-- SET_FUNCTION (R88, R170). -/
def State.answerSetFunction (s : State) (function state : Byte) : Answer :=
  match s.mode with
  | .config => s.refuse .wrongMode
  | .run =>
    if 31 < function.toNat then s.refuse .noEntry
    else (s.setFunction function.toNat (state != 0#8)).answer .ok []

/-- The voice byte of a PLAY_CUE reply (R176, R179). -/
def voiceCode (v : Option (Fin 8)) : Nat := optionCode 255 (v.map (fun i => i.val))

/-- PLAY_CUE (R107). -/
def State.answerPlayCue (s : State) (cue : Byte) : Answer :=
  if 63 < cue.toNat then s.refuse .noEntry
  else
    let p := s.startCue cue.toNat true
    match p.2 with
    | .refused r => p.1.answer r []
    | .outcome o v => p.1.answer .ok (toBytes 1 o.code ++ toBytes 1 (voiceCode v))

/-- HALT_CUE (R106). -/
def State.answerHaltCue (s : State) (cue : Byte) : Answer :=
  if 63 < cue.toNat then s.refuse .noEntry
  else
    let p := s.haltVoices cue.toNat
    p.1.answer .ok (toBytes 1 p.2)

/-- The answer of an accepted erase or write: its first address (R129, R179). -/
def State.answerStore (s : State) (r : Except Result (State × Nat)) : Answer :=
  match r with
  | .error e => s.refuse e
  | .ok (t, address) => t.answer .ok (toBytes 3 address)

/-- STORE_ERASE (R128, R129). -/
def State.answerStoreErase (s : State) (sector : Nat) : Answer := s.answerStore (s.storeErase sector)

/-- STORE_WRITE (R128, R129). -/
def State.answerStoreWrite (s : State) (address : Nat) (data : List Byte) : Answer :=
  s.answerStore (s.storeWrite address data)

/-- STORE_READ: a read that is accepted is answered at its completion (R128, R130). -/
def State.answerStoreRead (s : State) (address count : Nat) : Answer :=
  match s.storeRead address count with
  | .error e => s.refuse e
  | .ok t => (t, none)

/-- READ_STATUS: the notices-lost flag is reported as it stands and then cleared (R173). -/
def State.answerReadStatus (s : State) : Answer :=
  ({ s with link := { s.link with lost := false } }).answer .ok s.statusRecord

/-- READ_COUNTERS: the values before the clear (R173). -/
def State.answerReadCounters (s : State) (group clear : Byte) : Answer :=
  match s.counters.group group.toNat with
  | none => s.refuse .noEntry
  | some values =>
    let t := if clear = 0#8 then s else { s with counters := s.counters.clear group.toNat }
    t.answer .ok (group :: values.flatMap (toBytes 2))

/-- CLEAR_FAULT TRACTION (R20, R174). -/
def State.answerClearTraction (s : State) : Answer :=
  if s.motion.state = .fault then s.clearTraction.answer .ok [] else s.refuse .notFaulted

/-- CLEAR_FAULT SMOKE (R143, R174). -/
def State.answerClearSmoke (s : State) : Answer :=
  if s.smoke.latch.isSome then s.clearSmoke.answer .ok [] else s.refuse .notFaulted

/-- CLEAR_FAULT (R174): TRACTION 0, SMOKE 1, any other code NO_ENTRY. -/
def State.answerClearFault (s : State) (target : Byte) : Answer :=
  if target = 0#8 then s.answerClearTraction
  else if target = 1#8 then s.answerClearSmoke
  else s.refuse .noEntry

/-- RESTART is answered OK, and takes effect when that reply has left the line (R175). -/
def State.answerRestart (s : State) : Answer := s.answer .ok []

/-- A request judged and handed to its owner (R170). -/
def State.perform (s : State) (r : Request) : Answer :=
  match r with
  | .ping => s.answerPing
  | .setMode code => s.answerSetMode code
  | .readTable table index => s.answerReadTable table index
  | .writeTable table index entry => s.answerWriteTable table index entry
  | .drive throttle direction => s.answerDrive throttle.toNat direction
  | .releaseDrive => s.answerReleaseDrive
  | .stop => s.answerStop
  | .setFunction function state => s.answerSetFunction function state
  | .playCue cue => s.answerPlayCue cue
  | .haltCue cue => s.answerHaltCue cue
  | .storeErase sector => s.answerStoreErase sector.toNat
  | .storeWrite address data => s.answerStoreWrite address.toNat data
  | .storeRead address count => s.answerStoreRead address.toNat count.toNat
  | .readStatus => s.answerReadStatus
  | .readCounters group clear => s.answerReadCounters group clear
  | .clearFault target => s.answerClearFault target
  | .restart => s.answerRestart
  | .badKind _ => s.refuse .badKind
  | .badLength _ => s.refuse .badLength

/-! ## Service (R168, R169) -/

/-- The Link Port's state replaced. -/
def State.withLink (s : State) (l : Link) : State := { s with link := l }

/-- A reply to a request (R169). -/
def replyTo (tag : Byte) (r : Request) (result : Result) (content : List Byte) : Reply :=
  { kind := requestKind r, tag := tag, result := result, content := content }

/-- A request enters service and is handed to its owner (R168, R170). -/
def State.serve (s : State) (t : Tagged) : State :=
  let p := s.perform t.request
  let stage := match p.2 with
    | none => Stage.working
    | some a => .built (replyTo t.tag t.request a.1 a.2)
  p.1.withLink { p.1.link with inService := some { tag := t.tag, request := t.request, stage := stage } }

/-- A built reply is placed in an empty reply slot and its request leaves service; a RESTART stays until the restart
(R168, R175, assumption 12). -/
def Link.place (l : Link) : Link :=
  match l.inService, l.slot with
  | some v, none =>
    match v.stage with
    | .built r =>
      let next := match v.request with
        | .restart => some { v with stage := .restarting }
        | _ => none
      { l with slot := some r, inService := next }
    | .working => l
    | .restarting => l
  | _, _ => l

/-- The waiting request becomes the request in service when the place is free (R168). -/
def State.promote (s : State) : State :=
  match s.link.inService, s.link.waiting with
  | none, some t => (s.withLink { s.link with waiting := none }).serve t
  | _, _ => s

/-- A built reply is placed where it can be, in the state. -/
def State.place (s : State) : State := s.withLink s.link.place

/-- The Link Port comes to rest after an event of its own: replies are placed, a quiet line takes its next frame, and
the waiting request is served (R168, R169). -/
def State.settle (s : State) : State := s.place.startLine.place.promote.place.startLine.place

/-- The host lease timer, when it runs, is started again with host_lease (R168, R170). -/
def State.renewHostLease (s : State) : State :=
  s.withLink { s.link with hostLease := s.link.hostLease.map (fun _ => s.timerMs s.tables.radio.hostLease) }

/-- A checked request frame arrives (R168). -/
def State.takeRequest (s : State) (t : Tagged) : State :=
  let s := s.renewHostLease
  match s.link.inService, s.link.waiting with
  | none, _ => s.serve t
  | some _, none => s.withLink { s.link with waiting := some t }
  | some _, some _ => s.countLink (fun k => { k with overrun := bump k.overrun })

/-! ## The receiver (R167) -/

/-- A frame is abandoned as FRAMING. -/
def State.framing (s : State) : State :=
  (s.withLink { s.link with receiver := .hunting, gap := none }).countLink
    (fun k => { k with framing := bump k.framing })

/-- A complete frame without its marker (length, kind, tag, payload, check) is checked (R167). -/
def State.checkFrame (s : State) (bytes : List Byte) : State :=
  let s := s.withLink { s.link with receiver := .hunting, gap := none }
  if crc8 bytes.dropLast = bytes.getLastD 0#8 then
    s.takeRequest { tag := bytes.getD 2 0#8, request := decodeRequest (bytes.getD 1 0#8) ((bytes.drop 3).dropLast) }
  else s.countLink (fun k => { k with checksum := bump k.checksum })

/-- The receiver collects, its gap timer restarted: 5 ms (R167). -/
def State.collect (s : State) (bytes : List Byte) : State :=
  s.withLink { s.link with receiver := .collecting bytes, gap := some (s.timerMs 5) }

/-- A byte on the control link (R167). -/
def State.linkByte (s : State) (byte : Byte) (stopBit : Bool) : State :=
  match s.link.receiver with
  | .hunting => if stopBit ∧ byte = 0x7E#8 then s.collect [] else s
  | .collecting bytes =>
    if stopBit then
      let bytes := bytes ++ [byte]
      let length := (bytes.headD 0#8).toNat
      if length < 2 ∨ 250 < length then s.framing
      else if bytes.length ≥ length + 2 then s.checkFrame bytes
      else s.collect bytes
    else s.framing

/-- The receiver's gap timer expires (R167). -/
def State.linkGap (s : State) : State :=
  match s.link.gap, s.link.receiver with
  | some t, .collecting _ => if t.due s.now then s.framing else s
  | _, _ => s

/-! ## The transmitter (R169, R175) -/

/-- Whether the frame on the line is the OK reply of a RESTART (R175). -/
def Link.restartReply (l : Link) : Bool :=
  match l.onLine with
  | some (.reply r) => (r.kind == requestKind .restart) && (r.result == .ok)
  | some (.notice _) => false
  | none => false

/-- A frame ends on the line, which is then free (R169); the end of a RESTART's reply is the restart (R175). -/
def State.frameEnd (s : State) : State :=
  match s.link.onLine with
  | none => s
  | some _ =>
    if s.link.restartReply then s.resetBy .restart
    else s.withLink { s.link with onLine := none }

/-- The ticks a read of `count` bytes takes: 10 µs and 0.3125 µs for each byte (R130). -/
def readTicks (count : Nat) : Nat := 20 + ceilDiv (count * 5) 8

/-- Whether an operation begun on the port has had `ticks` of time. -/
def StoreOp.ran (op : StoreOp) (ticks now : Nat) : Bool :=
  match op.begun with
  | none => false
  | some t => decide (t + ticks ≤ now)

/-- The read in progress on the port completes: its request gets its reply (R130). -/
def State.readComplete (s : State) : State :=
  match s.store.port, s.store.op with
  | .store, some op =>
    match op.kind, op.ran (readTicks op.count) s.now with
    | .read, true =>
      let data := Memory.readRange s.flash op.address op.count
      let content := toBytes 3 op.address ++ toBytes 1 op.count ++ data
      let s := s.leaveOp .idle
      match s.link.inService with
      | some v =>
        let r := replyTo v.tag v.request (if op.clamped then .okClamped else .ok) content
        s.withLink { s.link with inService := some { v with stage := .built r } }
      | none => s
    | _, _ => s
  | _, _ => s

/-- The host lease expires (R85, R170). -/
def State.hostLeaseExpiry (s : State) : State :=
  match s.link.hostLease with
  | none => s
  | some t => if t.due s.now then (s.withLink { s.link with hostLease := none }).releaseHost .hostLease else s

/-! ## The end of an event -/

/-- The end of an event of another block: the flash port and the quiet line take what waits (R127, R169,
assumptions 15 and 35). -/
def State.finish (s : State) : State := s.arbitrate.startLine

/-- The end of an event of the Link Port (R127, R168, R169). -/
def State.finishLink (s : State) : State := s.settle.arbitrate

end Sys2Proof.Machine
end

