-- ==== Sys2Proof/Machine/LinkCommands.lean ====
section
/-! DEFINITION. The meanings of the commands of the resets and of the control link's line (R164, R167 to R169, R175). -/

namespace Sys2Proof.Machine

/-- POWER_ON: every block at its reset values, every table at its defaults (R175). -/
def execPowerOn (after : Nat) (s : State) : Host.Outcome State Fault Refusal :=
  .next ((s.elapse after).resetBy .powerOn)

/-- BROWNOUT: the comparator trips below 5.0 V, and the reset ends at 5.5 V or more (R164, R175). -/
def execBrownout (after : Nat) (lowMv endMv : Nat) (s : State) : Host.Outcome State Fault Refusal :=
  if lowMv < 5000 ∧ 5500 ≤ endMv then .next ((s.elapse after).resetBy .brownout) else .next (s.elapse after).finish

/-- PIN_RESET (R175). -/
def execPinReset (after : Nat) (s : State) : Host.Outcome State Fault Refusal :=
  .next ((s.elapse after).resetBy .pin)

/-- RESTART_TAKES_EFFECT: the last byte of a RESTART's OK reply leaves the line (R175, assumption 13). -/
def execRestartTakesEffect (after : Nat) (s : State) : Host.Outcome State Fault Refusal :=
  if s.link.restartReply then .next ((s.elapse after).resetBy .restart) else .next (s.elapse after).finish

/-- LINK_BYTE: the receiver takes a byte (R167). -/
def execLinkByte (after : Nat) (byte : Byte) (stopBit : Bool) (s : State) : Host.Outcome State Fault Refusal :=
  .next ((s.elapse after).linkByte byte stopBit).finishLink

/-- LINK_GAP_EXPIRY: a frame being collected is abandoned (R167). -/
def execLinkGapExpiry (after : Nat) (s : State) : Host.Outcome State Fault Refusal :=
  .next ((s.elapse after).linkGap).finishLink

/-- TRANSMIT_FRAME_END: the line becomes free (R168, R169). -/
def execTransmitFrameEnd (after : Nat) (s : State) : Host.Outcome State Fault Refusal :=
  .next ((s.elapse after).frameEnd).finishLink

/-- HOST_LEASE_EXPIRY: as RELEASE_DRIVE, with cause HOST_LEASE (R85). -/
def execHostLeaseExpiry (after : Nat) (s : State) : Host.Outcome State Fault Refusal :=
  .next ((s.elapse after).hostLeaseExpiry).finish

end Sys2Proof.Machine
end

