-- ==== Sys2Proof/Machine/MotionCommands.lean ====
section
/-! DEFINITION. The meanings of the commands of motor, bridge and wheel (chapters 1 to 3). -/

namespace Sys2Proof.Machine

/-- The measurement complete event, at the end of the gap (R28, R31): the measurement, the regulation step, the hand-over, the
change of traction state, then the budget ceiling, the Cadence Unit and the ambient voice (assumption 14). -/
def State.measurementComplete (s : State) (terminalMv : Int) : State :=
  if s.gapOver && (s.mode == .run) then
    ((s.measure terminalMv).regulationStep.handOver.tractionChanged s.motion.state).budgetStep.cadenceStep.ambientStep
  else s

/-- TRACTION_PERIOD_EXPIRY (R27). -/
def execTractionPeriodExpiry (after : Nat) (meanMicroamps : Nat) (s : State) : Host.Outcome State Fault Refusal :=
  .next ((s.elapse after).periodExpiry meanMicroamps).finish

/-- MEASUREMENT_COMPLETE (R31). -/
def execMeasurementComplete (after : Nat) (terminalMv : Int) (s : State) : Host.Outcome State Fault Refusal :=
  .next ((s.elapse after).measurementComplete terminalMv).finish

/-- SHORT_TRIP (R37). -/
def execShortTrip (after : Nat) (currentMa : Nat) (s : State) : Host.Outcome State Fault Refusal :=
  .next ((s.elapse after).trip currentMa).finish

/-- DITHER_GROUP_START (R34, assumption 30). -/
def execDitherGroupStart (after : Drawn) (s : State) : Host.Outcome State Fault Refusal :=
  .next ((s.elapse after.ticks).startGroup after.meanMicroamps).finish

/-- AXLE_EDGE (R44). -/
def execAxleEdge (after : Nat) (s : State) : Host.Outcome State Fault Refusal :=
  .next ((s.elapse after).axleEdge).finish

/-- CAPTURE_TIMER_SATURATION (R45). -/
def execCaptureTimerSaturation (after : Nat) (s : State) : Host.Outcome State Fault Refusal :=
  .next ((s.elapse after).captureSaturated).finish

/-- CHUFF_TIMER_EXPIRY (R47). -/
def execChuffTimerExpiry (after : Nat) (s : State) : Host.Outcome State Fault Refusal :=
  .next ((s.elapse after).chuffExpiry).finish

/-- REVOLUTION_TIMER_EXPIRY (R50). -/
def execRevolutionTimerExpiry (after : Nat) (s : State) : Host.Outcome State Fault Refusal :=
  .next ((s.elapse after).revolutionExpiry).finish

/-- SENSOR_WATCH_EXPIRY (R51). -/
def execSensorWatchExpiry (after : Nat) (s : State) : Host.Outcome State Fault Refusal :=
  .next ((s.elapse after).watchOverdue).finish

/-- CARRIER_PERIOD_START (R33, R34). -/
def execCarrierPeriodStart (after : Drawn) (s : State) : Host.Outcome State Fault Refusal :=
  .next ((s.elapse after.ticks).startCarrier after.meanMicroamps).finish

/-- DEAD_TIME_ELAPSED (R35). -/
def execDeadTimeElapsed (after : Nat) (s : State) : Host.Outcome State Fault Refusal :=
  .next ((s.elapse after).deadTimeOver).finish

end Sys2Proof.Machine
end

