-- ==== Sys2Proof/Machine/RadioCommands.lean ====
section
/-! DEFINITION. The meanings of the commands of the radio line and of Operator Control's timers (chapters 4 and 5). -/

namespace Sys2Proof.Machine

/-- RADIO_BYTE: the burst assembler takes a byte (R58 to R70). -/
def execRadioByte (after : Nat) (byte : Byte) (stopBit : Bool) (s : State) : Host.Outcome State Fault Refusal :=
  .next ((s.elapse after).radioByte byte stopBit).finish

/-- RADIO_GAP_EXPIRY: the radio line has been quiet for 1 ms (R58). -/
def execRadioGapExpiry (after : Nat) (s : State) : Host.Outcome State Fault Refusal :=
  .next ((s.elapse after).radioGap).finish

/-- DUPLICATE_ENTRY_FREED (R67). -/
def execDuplicateEntryFreed (after : Nat) (slot : Fin 8) (s : State) : Host.Outcome State Fault Refusal :=
  .next ((s.elapse after).freeDuplicate slot).finish

/-- INTERPRETATION_COMPLETE (R78). -/
def execInterpretationComplete (after : Nat) (s : State) : Host.Outcome State Fault Refusal :=
  .next ((s.elapse after).interpretationComplete).finish

/-- OWNER_LEASE_EXPIRY (R83). -/
def execOwnerLeaseExpiry (after : Nat) (s : State) : Host.Outcome State Fault Refusal :=
  .next ((s.elapse after).leaseExpiry).finish

/-- DWELL_EXPIRY (R93). -/
def execDwellExpiry (after : Nat) (s : State) : Host.Outcome State Fault Refusal :=
  .next ((s.elapse after).endDwell).finish

/-- BEACON_REARM (R91). -/
def execBeaconRearm (after : Nat) (entry : Fin 16) (s : State) : Host.Outcome State Fault Refusal :=
  .next ((s.elapse after).rearm entry).finish

end Sys2Proof.Machine
end

