-- ==== Sys2Proof/Machine/Requests.lean ====
section
/-! DEFINITION. The meanings of the requests: each is the arrival of one checked request frame (R168, assumption 5). -/

namespace Sys2Proof.Machine

/-- PING arrives (R168, R171). -/
def execPing (after : Nat) (tag : Byte) (s : State) : Host.Outcome State Fault Refusal :=
  .next ((s.elapse after).takeRequest { tag := tag, request := .ping }).finishLink

/-- SET_MODE RUN arrives (R172). -/
def execSetModeRun (after : Nat) (tag : Byte) (s : State) : Host.Outcome State Fault Refusal :=
  .next ((s.elapse after).takeRequest { tag := tag, request := .setMode 1#8 }).finishLink

/-- SET_MODE arrives with another code than that of RUN (R172). -/
def execSetModeConfig (after : Nat) (tag code : Byte) (s : State) : Host.Outcome State Fault Refusal :=
  .next ((s.elapse after).takeRequest { tag := tag, request := .setMode code }).finishLink

/-- READ_TABLE arrives (R171). -/
def execReadTable (after : Nat) (tag table index : Byte) (s : State) : Host.Outcome State Fault Refusal :=
  .next ((s.elapse after).takeRequest { tag := tag, request := .readTable table index }).finishLink

/-- WRITE_TABLE arrives (R171). -/
def execWriteTable (after : Nat) (tag table index : Byte) (entry : List Byte) (s : State) : Host.Outcome State Fault Refusal :=
  .next ((s.elapse after).takeRequest { tag := tag, request := .writeTable table index entry }).finishLink

/-- DRIVE arrives (R85). -/
def execDrive (after : Nat) (tag : Byte) (throttle : BitVec 16) (direction : Byte) (s : State) : Host.Outcome State Fault Refusal :=
  .next ((s.elapse after).takeRequest { tag := tag, request := .drive throttle direction }).finishLink

/-- RELEASE_DRIVE arrives (R85). -/
def execReleaseDrive (after : Nat) (tag : Byte) (s : State) : Host.Outcome State Fault Refusal :=
  .next ((s.elapse after).takeRequest { tag := tag, request := .releaseDrive }).finishLink

/-- STOP arrives (R86). -/
def execStop (after : Nat) (tag : Byte) (s : State) : Host.Outcome State Fault Refusal :=
  .next ((s.elapse after).takeRequest { tag := tag, request := .stop }).finishLink

/-- SET_FUNCTION arrives (R88). -/
def execSetFunction (after : Nat) (tag function state : Byte) (s : State) : Host.Outcome State Fault Refusal :=
  .next ((s.elapse after).takeRequest { tag := tag, request := .setFunction function state }).finishLink

/-- PLAY_CUE arrives (R107). -/
def execPlayCue (after : Nat) (tag cue : Byte) (s : State) : Host.Outcome State Fault Refusal :=
  .next ((s.elapse after).takeRequest { tag := tag, request := .playCue cue }).finishLink

/-- HALT_CUE arrives (R106). -/
def execHaltCue (after : Nat) (tag cue : Byte) (s : State) : Host.Outcome State Fault Refusal :=
  .next ((s.elapse after).takeRequest { tag := tag, request := .haltCue cue }).finishLink

/-- STORE_ERASE arrives (R128, R129). -/
def execStoreErase (after : Nat) (tag : Byte) (sector : BitVec 16) (s : State) : Host.Outcome State Fault Refusal :=
  .next ((s.elapse after).takeRequest { tag := tag, request := .storeErase sector }).finishLink

/-- STORE_WRITE arrives (R128, R129). -/
def execStoreWrite (after : Nat) (tag : Byte) (address : BitVec 24) (data : List Byte) (s : State) : Host.Outcome State Fault Refusal :=
  .next ((s.elapse after).takeRequest { tag := tag, request := .storeWrite address data }).finishLink

/-- STORE_READ arrives (R128, R130). -/
def execStoreRead (after : Nat) (tag : Byte) (address : BitVec 24) (count : Byte) (s : State) : Host.Outcome State Fault Refusal :=
  .next ((s.elapse after).takeRequest { tag := tag, request := .storeRead address count }).finishLink

/-- READ_STATUS arrives (R173). -/
def execReadStatus (after : Nat) (tag : Byte) (s : State) : Host.Outcome State Fault Refusal :=
  .next ((s.elapse after).takeRequest { tag := tag, request := .readStatus }).finishLink

/-- READ_COUNTERS arrives (R173). -/
def execReadCounters (after : Nat) (tag group clear : Byte) (s : State) : Host.Outcome State Fault Refusal :=
  .next ((s.elapse after).takeRequest { tag := tag, request := .readCounters group clear }).finishLink

/-- CLEAR_FAULT TRACTION arrives (R20, R174). -/
def execClearFaultTraction (after : Nat) (tag : Byte) (s : State) : Host.Outcome State Fault Refusal :=
  .next ((s.elapse after).takeRequest { tag := tag, request := .clearFault 0#8 }).finishLink

/-- CLEAR_FAULT SMOKE arrives (R143, R174). -/
def execClearFaultSmoke (after : Nat) (tag : Byte) (s : State) : Host.Outcome State Fault Refusal :=
  .next ((s.elapse after).takeRequest { tag := tag, request := .clearFault 1#8 }).finishLink

/-- RESTART arrives (R175). -/
def execRestart (after : Nat) (tag : Byte) (s : State) : Host.Outcome State Fault Refusal :=
  .next ((s.elapse after).takeRequest { tag := tag, request := .restart }).finishLink

end Sys2Proof.Machine
end

