-- ==== Sys2Proof/Machine/Mixer.lean ====
section
/-! DEFINITION. The Mixer: one output sample (R132). -/

namespace Sys2Proof.Machine

/-- What a voice contributes: its sample as a signed number times its applied gain, 0 while it waits for its first line
or is in underrun (R132 part 1). -/
def contribution (v : Voice) (b : VoiceBuffers) : Int :=
  if v.active && !v.waiting then
    match b.byteAt v with
    | none => 0
    | some byte => byte.toInt * (v.applied : Int)
  else 0

/-- The sum of the eight contributions (R132 part 2). -/
def State.mixSum (s : State) : Int :=
  (List.finRange 8).foldl (fun acc i => acc + contribution s.sound.voices[i] s.store.buffers[i]) 0

/-- The value before saturation, for a sum, a master factor and a shed level (R132 parts 3 and 4): both quotients are
rounded toward minus infinity. -/
def mixValue (sum : Int) (master shed : Nat) : Int :=
  let v := Int.fdiv (sum * (master : Int)) 4096
  if 2 ≤ shed then Int.fdiv v 2 else v

/-- Saturation to −2048..2047 (R132 part 5). -/
def saturate (v : Int) : Int := if v < -2048 then -2048 else if 2047 < v then 2047 else v

/-- The master factor: the master volume, or 0 while mute is active (R132 part 3). -/
def State.masterFactor (s : State) : Nat := if s.control.flags.mute then 0 else s.tables.masterVolume

/-- The voices of a list advance one after another. -/
def State.advanceVoices (s : State) : List (Fin 8) → State
  | [] => s
  | i :: rest => (s.advanceVoice i).advanceVoices rest

/-- An output sample event (R132): the value is formed from the state as it stands, then every voice advances. -/
def State.mixSample (s : State) : State :=
  let v := mixValue s.mixSum s.masterFactor s.supply.shed
  let s := { s with audio := saturate v }
  let s := if saturate v ≠ v then s.countSound (fun k => { k with clip := bump k.clip }) else s
  s.advanceVoices (List.finRange 8)

end Sys2Proof.Machine
end

