-- ==== Sys2Proof/Machine/SoundCommands.lean ====
section
/-! DEFINITION. The meanings of the commands of sound, flash, smoke, lamps and supply (chapters 6 to 10). -/

namespace Sys2Proof.Machine

/-- OUTPUT_SAMPLE (R132). -/
def execOutputSample (after : Nat) (s : State) : Host.Outcome State Fault Refusal :=
  .next ((s.elapse after).mixSample).finish

/-- LINE_READ_COMPLETE: the line goes to the buffer that asked for it, and the port is free (R126, R127). A line outside
the flash stops the model (assumption 33). -/
def execLineReadComplete (after : Nat) (s : State) : Host.Outcome State Fault Refusal :=
  let s := s.elapse after
  match s.store.port with
  | .line voice buffer address begun =>
    if flashSize < address + lineSize then .fault (.flashAddress address)
    else if begun + lineTicks ≤ s.now then .next (s.lineComplete voice buffer address).finish
    else .next s.finish
  | .idle => .next s.finish
  | .store => .next s.finish
  | .waiting => .next s.finish

/-- STORE_STATUS_POLL (R129). -/
def execStoreStatusPoll (after : Nat) (ready : Bool) (s : State) : Host.Outcome State Fault Refusal :=
  .next ((s.elapse after).storePoll ready).finish

/-- STORE_READ_COMPLETE (R130). -/
def execStoreReadComplete (after : Nat) (s : State) : Host.Outcome State Fault Refusal :=
  .next ((s.elapse after).readComplete).finishLink

/-- WAITING_STATUS_POLL (R131). -/
def execWaitingStatusPoll (after : Nat) (ready : Bool) (s : State) : Host.Outcome State Fault Refusal :=
  .next ((s.elapse after).waitingPoll ready).finish

/-- TEMPERATURE_SAMPLE (R137). -/
def execTemperatureSample (after : Nat) (milliCelsius : Int) (s : State) : Host.Outcome State Fault Refusal :=
  .next ((s.elapse after).smokeSample milliCelsius).finish

/-- FAN_BURST_EXPIRY (R144). -/
def execFanBurstExpiry (after : Nat) (s : State) : Host.Outcome State Fault Refusal :=
  .next ((s.elapse after).endBurst).finish

/-- LIGHT_UPDATE (R148). -/
def execLightUpdate (after : Nat) (s : State) : Host.Outcome State Fault Refusal :=
  .next ((s.elapse after).lightUpdate).finish

/-- STROBE_PHASE_EXPIRY (R151). -/
def execStrobePhaseExpiry (after : Nat) (s : State) : Host.Outcome State Fault Refusal :=
  .next ((s.elapse after).strobeExpiry).finish

/-- SUPPLY_SAMPLE (R157). -/
def execSupplySample (after : Nat) (trackMv : Int) (railMv currentMicroamps : Nat) (s : State) : Host.Outcome State Fault Refusal :=
  .next ((s.elapse after).supplySample trackMv railMv currentMicroamps).finish

end Sys2Proof.Machine
end

