-- ==== Sys2Proof/Machine/Dispatch.lean ====
section
/-! DEFINITION. The dispatch: one arm for each command, each one call of that command's meaning. -/

namespace Sys2Proof.Machine

def exec (i : Instr) (s : State) : Host.Outcome State Fault Refusal :=
  match i with
  | .powerOn after => Sys2Proof.Machine.execPowerOn after s
  | .brownout after lowMv endMv => Sys2Proof.Machine.execBrownout after lowMv endMv s
  | .pinReset after => Sys2Proof.Machine.execPinReset after s
  | .restartTakesEffect after => Sys2Proof.Machine.execRestartTakesEffect after s
  | .linkByte after byte stopBit => Sys2Proof.Machine.execLinkByte after byte stopBit s
  | .linkGapExpiry after => Sys2Proof.Machine.execLinkGapExpiry after s
  | .transmitFrameEnd after => Sys2Proof.Machine.execTransmitFrameEnd after s
  | .hostLeaseExpiry after => Sys2Proof.Machine.execHostLeaseExpiry after s
  | .ping after tag => Sys2Proof.Machine.execPing after tag s
  | .setModeRun after tag => Sys2Proof.Machine.execSetModeRun after tag s
  | .setModeConfig after tag code => Sys2Proof.Machine.execSetModeConfig after tag code s
  | .readTable after tag table index => Sys2Proof.Machine.execReadTable after tag table index s
  | .writeTable after tag table index entry => Sys2Proof.Machine.execWriteTable after tag table index entry s
  | .drive after tag throttle direction => Sys2Proof.Machine.execDrive after tag throttle direction s
  | .releaseDrive after tag => Sys2Proof.Machine.execReleaseDrive after tag s
  | .stop after tag => Sys2Proof.Machine.execStop after tag s
  | .setFunction after tag function state => Sys2Proof.Machine.execSetFunction after tag function state s
  | .playCue after tag cue => Sys2Proof.Machine.execPlayCue after tag cue s
  | .haltCue after tag cue => Sys2Proof.Machine.execHaltCue after tag cue s
  | .storeErase after tag sector => Sys2Proof.Machine.execStoreErase after tag sector s
  | .storeWrite after tag address data => Sys2Proof.Machine.execStoreWrite after tag address data s
  | .storeRead after tag address count => Sys2Proof.Machine.execStoreRead after tag address count s
  | .readStatus after tag => Sys2Proof.Machine.execReadStatus after tag s
  | .readCounters after tag group clear => Sys2Proof.Machine.execReadCounters after tag group clear s
  | .clearFaultTraction after tag => Sys2Proof.Machine.execClearFaultTraction after tag s
  | .clearFaultSmoke after tag => Sys2Proof.Machine.execClearFaultSmoke after tag s
  | .restart after tag => Sys2Proof.Machine.execRestart after tag s
  | .radioByte after byte stopBit => Sys2Proof.Machine.execRadioByte after byte stopBit s
  | .radioGapExpiry after => Sys2Proof.Machine.execRadioGapExpiry after s
  | .duplicateEntryFreed after slot => Sys2Proof.Machine.execDuplicateEntryFreed after slot s
  | .interpretationComplete after => Sys2Proof.Machine.execInterpretationComplete after s
  | .ownerLeaseExpiry after => Sys2Proof.Machine.execOwnerLeaseExpiry after s
  | .dwellExpiry after => Sys2Proof.Machine.execDwellExpiry after s
  | .beaconRearm after entry => Sys2Proof.Machine.execBeaconRearm after entry s
  | .tractionPeriodExpiry after meanMicroamps => Sys2Proof.Machine.execTractionPeriodExpiry after meanMicroamps s
  | .measurementComplete after terminalMv => Sys2Proof.Machine.execMeasurementComplete after terminalMv s
  | .shortTrip after currentMa => Sys2Proof.Machine.execShortTrip after currentMa s
  | .ditherGroupStart after => Sys2Proof.Machine.execDitherGroupStart after s
  | .axleEdge after => Sys2Proof.Machine.execAxleEdge after s
  | .captureTimerSaturation after => Sys2Proof.Machine.execCaptureTimerSaturation after s
  | .chuffTimerExpiry after => Sys2Proof.Machine.execChuffTimerExpiry after s
  | .revolutionTimerExpiry after => Sys2Proof.Machine.execRevolutionTimerExpiry after s
  | .sensorWatchExpiry after => Sys2Proof.Machine.execSensorWatchExpiry after s
  | .outputSample after => Sys2Proof.Machine.execOutputSample after s
  | .lineReadComplete after => Sys2Proof.Machine.execLineReadComplete after s
  | .storeStatusPoll after ready => Sys2Proof.Machine.execStoreStatusPoll after ready s
  | .storeReadComplete after => Sys2Proof.Machine.execStoreReadComplete after s
  | .waitingStatusPoll after ready => Sys2Proof.Machine.execWaitingStatusPoll after ready s
  | .temperatureSample after milliCelsius => Sys2Proof.Machine.execTemperatureSample after milliCelsius s
  | .fanBurstExpiry after => Sys2Proof.Machine.execFanBurstExpiry after s
  | .lightUpdate after => Sys2Proof.Machine.execLightUpdate after s
  | .strobePhaseExpiry after => Sys2Proof.Machine.execStrobePhaseExpiry after s
  | .supplySample after trackMv railMv currentMicroamps => Sys2Proof.Machine.execSupplySample after trackMv railMv currentMicroamps s
  | .carrierPeriodStart after => Sys2Proof.Machine.execCarrierPeriodStart after s
  | .deadTimeElapsed after => Sys2Proof.Machine.execDeadTimeElapsed after s

end Sys2Proof.Machine
end

