-- ==== Sys2Proof/Safety.lean ====
section
/-! DEFINITION. The terms the claims use: which parts of the state an event leaves alone, and the invariants of the
part. -/

namespace Sys2Proof.Machine

/-! ## Frames -/

/-- The parts of the state. -/
inductive Part where
  | now | mode | cause | tables | counters | link | radio | control | motion | bridge | cadence | sound | store | flash
  | audio | smoke | light | supply | freeCount | pending
deriving DecidableEq, Repr

/-- Every part but those of the list `changed` is in `t` as it is in `s`. -/
def State.keeps (changed : List Part) (s t : State) : Prop :=
  (Part.now ∈ changed ∨ t.now = s.now) ∧
  (Part.mode ∈ changed ∨ t.mode = s.mode) ∧
  (Part.cause ∈ changed ∨ t.cause = s.cause) ∧
  (Part.tables ∈ changed ∨ t.tables = s.tables) ∧
  (Part.counters ∈ changed ∨ t.counters = s.counters) ∧
  (Part.link ∈ changed ∨ t.link = s.link) ∧
  (Part.radio ∈ changed ∨ t.radio = s.radio) ∧
  (Part.control ∈ changed ∨ t.control = s.control) ∧
  (Part.motion ∈ changed ∨ t.motion = s.motion) ∧
  (Part.bridge ∈ changed ∨ t.bridge = s.bridge) ∧
  (Part.cadence ∈ changed ∨ t.cadence = s.cadence) ∧
  (Part.sound ∈ changed ∨ t.sound = s.sound) ∧
  (Part.store ∈ changed ∨ t.store = s.store) ∧
  (Part.flash ∈ changed ∨ t.flash = s.flash) ∧
  (Part.audio ∈ changed ∨ t.audio = s.audio) ∧
  (Part.smoke ∈ changed ∨ t.smoke = s.smoke) ∧
  (Part.light ∈ changed ∨ t.light = s.light) ∧
  (Part.supply ∈ changed ∨ t.supply = s.supply) ∧
  (Part.freeCount ∈ changed ∨ t.freeCount = s.freeCount) ∧
  (Part.pending ∈ changed ∨ t.pending = s.pending)

/-! ## The link and the port between events -/

/-- Whether a stage is a built reply. -/
def Stage.isBuilt : Stage → Bool
  | .built _ => true
  | .working => false
  | .restarting => false

/-- Whether the request in service has its reply built and not placed. -/
def Link.replyBuilt (l : Link) : Bool :=
  match l.inService with
  | some v => v.stage.isBuilt
  | none => false

/-- The Link Port between events (R168, R169): a quiet line has nothing ready to send, an empty reply slot has no built
reply waiting for it, and no request waits while none is in service. -/
abbrev State.linkRested (s : State) : Prop :=
  (s.link.onLine = none → s.link.slot = none ∧ s.link.notices = []) ∧
  (s.link.slot = none → s.link.replyBuilt = false) ∧
  (s.link.inService = none → s.link.waiting = none)

/-- The Link Port with nothing on the line, in the slot, in service or waiting. -/
abbrev State.linkQuiet (s : State) : Prop :=
  s.link.onLine = none ∧ s.link.slot = none ∧ s.link.notices = [] ∧ s.link.inService = none ∧ s.link.waiting = none

/-- The flash port between events (R127): an idle port has no operation and no line request waiting for it. -/
abbrev State.portRested (s : State) : Prop :=
  s.store.port = .idle → s.store.op = none ∧ s.store.nextRequest = none

/-- The line a read in progress fetches lies in the flash (R120, R121). -/
def State.lineInFlash (s : State) : Bool :=
  match s.store.port with
  | .line _ _ address _ => decide (address + lineSize ≤ flashSize)
  | .idle => true
  | .store => true
  | .waiting => true

/-- The Link Port and the flash port between events. -/
abbrev State.rested (s : State) : Prop := s.linkRested ∧ s.portRested

/-- The Link Port with nothing to do, and the flash port between events: the state a request finds when nothing else
is under way. -/
abbrev State.ready (s : State) : Prop := s.linkQuiet ∧ s.portRested

/-- The reply to a request is the frame on the line, nothing waits behind it, and its request has left service. -/
def State.answered (t : State) (tag : Byte) (r : Request) (result : Result) (content : List Byte) : Prop :=
  t.link.onLine = some (.reply (replyTo tag r result content)) ∧ t.link.slot = none ∧ t.link.inService = none ∧
    t.link.waiting = none

/-- A notice raised at the time of `t`. -/
def State.noticed (t : State) (n : Notice) : NoticeEntry := { time := t.timestamp, notice := n }

/-- Every block at its values after a reset of cause `cause`, with the tables `tables` (R22, R40, R56, R74, R96, R118,
R131, R134, R146, R155, R166, R175). -/
def State.isReset (t : State) (cause : ResetCause) (tables : Tables) : Prop :=
  t.now = 0 ∧ t.mode = .config ∧ t.cause = cause ∧ t.tables = tables ∧ t.counters = {} ∧
  t.link = { onLine := some (.notice { time := 0, notice := .started cause }) } ∧
  t.radio = {} ∧ t.control = {} ∧ t.motion = {} ∧ t.bridge = {} ∧ t.cadence = Cadence.entry tables.cadence 0 ∧
  t.sound = { reserve := tables.chuff.reserve } ∧ t.store = {} ∧ t.audio = 0 ∧ t.smoke = {} ∧
  t.light = { strobe := { since := 0, ticks := tables.lights.strobeOn * ticksPerMs } } ∧ t.supply = {}

/-- The line commands of a run of bytes with good stop bits: the first `after` the command before it, the rest at
once. -/
def lineBytes (after : Nat) : List Byte → List Instr
  | [] => []
  | b :: bs => .linkByte after b true :: bs.map (fun x => .linkByte 0 x true)

/-- A write that would change a config-only field of a table, each field compared as it would stand after clamping
(R171). -/
def Tables.configOnlyDiffers (t : Tables) (table : Nat) (entry : List Byte) : Bool :=
  match table with
  | 0 =>
    let n := (TractionTable.decode entry).1
    n.regulation != t.traction.regulation || n.gapUs != t.traction.gapUs || n.carrier != t.traction.carrier ||
      n.deadTenths != t.traction.deadTenths || n.shortTrip != t.traction.shortTrip
  | 1 =>
    let n := (CadenceTable.decode entry).1
    n.sensorMode != t.cadence.sensorMode || n.edges != t.cadence.edges
  | 2 =>
    let n := (RadioTable.decode entry).1
    n.own != t.radio.own || n.consist != t.radio.consist || n.reversed != t.radio.reversed
  | 7 => (ChuffTable.decode entry).1.reserve != t.chuff.reserve
  | _ => false

/-- The host lease timer of `s`, where it runs, started again at the time `now` (R168, R170). -/
def State.leaseRestarted (s : State) (now : Nat) : Option Timer :=
  s.link.hostLease.map (fun _ => { since := now, ticks := s.tables.radio.hostLease * 2000 })

/-- The Control Record with its stop sequence, where one runs, at an end: a present deferred direction becomes the
direction request (R94). -/
def Control.freed (c : Control) : Control :=
  if c.stopSeq = .none then c
  else { c with stopSeq := .none, request := c.deferred.getD c.request, deferred := none }

/-- The Control Record after the source has become NONE with a loss action, its effective throttle apart (R84, R86,
R94). -/
def Control.afterLoss (c : Control) (action : LossAction) : Control :=
  match action with
  | .hold => { c with source := .none, held := some (if c.stopSeq = .none then c.throttle else c.resume) }
  | .stop => { c.freed with source := .none, throttle := 0 }
  | .estop => { c.freed with source := .none, throttle := 0, held := none, estop := true }

/-- The Motion Record after the ESTOP signal (R17). -/
def Motion.afterEstop (m : Motion) : Motion :=
  if m.state.regulating then
    { m with state := .estop, target := 0, demand := 0, integral := 0, drive := 0, band := .normal, falling := false,
             stallRun := 0 }
  else m

/-- Voice `v` plays cue `n` of entry `c` with sample `e` from position 0, as just started (R100, R115). -/
def Voice.justStarted (v : Voice) (n : Nat) (c : CueEntry) (e : SampleEntry) (host : Bool) (m : Motion) : Prop :=
  v.state = .playing ∧ v.content = some (.cue n) ∧ v.host = host ∧ v.cls = c.cls ∧ v.priority = c.priority ∧
  v.sample = e ∧ v.gain = c.gain ∧ v.gainMode = c.gainMode ∧ v.release = c.release ∧ v.position = 0 ∧
  v.multiplier = 256 ∧ v.horn = c.horn ∧ v.firing = c.firing ∧ v.waiting = true ∧
  v.applied = gainOf c.gain c.gainMode m.demandCode m.band

/-- What an ambient update makes of voice 0, `z` before and `v` after, in the ambient state `a`, with the supply state and
the Motion Record then standing (R101, R104, R105, R112). A loop that is free at once leaves the record of a FREE voice
(assumption 47). -/
def State.updatesAmbient (s : State) (supply : SupplyState) (a : AmbientState) (m : Motion) (z v : Voice) : Prop :=
  let wanted := s.tables.ambient.wanted a
  let fills (rest : Voice) := (wanted = none → v = rest) ∧
    (∀ n, wanted = some n →
      let c := s.tables.cueAt n
      let e := s.tables.sampleAt c.slot
      ((e.length = 0 ∨ s.store.blocks e = true) → v = rest) ∧
      (e.length ≠ 0 → s.store.blocks e = false →
        v.state = .playing ∧ v.content = some (.ambient n a) ∧ v.host = false ∧ v.cls = .loop ∧
          v.priority = c.priority ∧ v.sample = e ∧ v.gain = c.gain ∧ v.gainMode = c.gainMode ∧
          v.release = c.release ∧ v.position = 0 ∧ v.multiplier = 256 ∧ v.horn = c.horn ∧ v.firing = c.firing ∧
          v.waiting = true ∧ v.applied = gainOf c.gain c.gainMode m.demandCode m.band))
  (supply = .depleted ∨ z.isScene = true ∨ z.state = .releasing → v = z) ∧
  (supply ≠ .depleted → z.isScene = false → z.state = .playing →
    (∀ n b, wanted = some n → z.content = some (.ambient n b) → v = z) ∧
    (z.playsAmbient wanted = false → z.release ≠ 0 → z.waiting = false →
      v = { z with state := .releasing, multiplier := 256 }) ∧
    (z.playsAmbient wanted = false → (z.release = 0 ∨ z.waiting = true) → fills {})) ∧
  (supply ≠ .depleted → z.isScene = false → z.state = .free → fills z)

/-- Leg `l`, asked at `now` to switch its high side with `n` steps a period, becomes `m`: a low side that is on turns off at
once, and the high side takes the step count where the low side has been off for the dead time, else holds it (R33, R35). -/
def Leg.switchesTo (l m : Leg) (now dead n : Nat) : Prop :=
  let off := if l.low = true then some now else l.lowOff
  m.low = false ∧ m.heldLow = false ∧ m.lowOff = off ∧
  ((∃ b, off = some b ∧ now < b + dead) → m.high = 0 ∧ m.heldHigh = n) ∧
  ((∀ b, off = some b → b + dead ≤ now) → m.high = n ∧ m.heldHigh = 0)

/-- Leg `l`, asked at `now` to hold its low side on, becomes `m`: a high side turns off, at once or at the end of its
on-window in the carrier period of `ticks` that began at `start`; a low side that is on stays on, and one that is off turns on
where the high side has been off for the dead time, else is held (R33, R35). -/
def Leg.holdsLow (l m : Leg) (now dead start ticks : Nat) : Prop :=
  let off := if l.high = 0 then l.highOff
    else if (now - start) * 256 < l.high * ticks then some now else some (start + (l.high * ticks + 255) / 256)
  m.high = 0 ∧ m.heldHigh = 0 ∧ m.highOff = off ∧
  (l.low = true → m.low = true ∧ m.heldLow = false) ∧
  (l.low = false → (∃ b, off = some b ∧ now < b + dead) → m.low = false ∧ m.heldLow = true) ∧
  (l.low = false → (∀ b, off = some b → b + dead ≤ now) → m.low = true ∧ m.heldLow = false)

/-- The legs of `s` driven at the time of `t` to the pattern of a bridge state and a direction, with `n` steps for the
switching leg, are those of `t` (R25, R33, R35, R36). -/
def State.legsFollow (s t : State) (state : BridgeState) (direction : Direction) (n : Nat) : Prop :=
  let dead := s.tables.traction.deadTenths / 5
  let held (l m : Leg) := l.holdsLow m t.now dead s.bridge.carrierFrom s.tables.traction.carrier.ticks
  (state = .drive → direction = .fwd →
    s.bridge.legA.switchesTo t.bridge.legA t.now dead n ∧ held s.bridge.legB t.bridge.legB) ∧
  (state = .drive → direction = .rev →
    s.bridge.legB.switchesTo t.bridge.legB t.now dead n ∧ held s.bridge.legA t.bridge.legA) ∧
  (state = .brake → held s.bridge.legA t.bridge.legA ∧ held s.bridge.legB t.bridge.legB) ∧
  (state ≠ .drive → state ≠ .brake →
    t.bridge.legA.high = 0 ∧ t.bridge.legA.low = false ∧ t.bridge.legA.heldHigh = 0 ∧ t.bridge.legA.heldLow = false ∧
    t.bridge.legB.high = 0 ∧ t.bridge.legB.low = false ∧ t.bridge.legB.heldHigh = 0 ∧ t.bridge.legB.heldLow = false)

/-- What the line carries, then the notice queue: the frames in the order they leave the part, a reply in its slot
apart. -/
def State.outgoing (t : State) : List Tx := t.link.onLine.toList ++ t.link.notices.map Tx.notice

/-- The last notice of the line and the queue is `n`, raised at the time of `t`. -/
def State.lastNotice (t : State) (n : Notice) : Prop := t.outgoing.getLast? = some (.notice (t.noticed n))

/-- The packet that a checked air packet brings to the inbound queue; an ESTOP goes past it (R61, R65, R68). -/
def AirPacket.queued (p : AirPacket) : Option Packet :=
  match p.kind, p.body with
  | .throttle, .throttle speed direction => some (.throttle speed direction)
  | .functions, .functions group states => some (.functions group states)
  | .select, _ => some .select
  | .release, _ => some .release
  | .beacon, _ => some .beacon
  | _, _ => none

/-- Entry `k` of the Beacon Table acts at a hearing of beacon `id` (R91). -/
abbrev State.beaconActs (s : State) (id : Nat) (k : Fin 16) : Prop :=
  id ≠ 0 ∧ s.tables.beacon[k].id = id ∧ s.control.beacons[k].armed = true ∧
    s.tables.beacon[k].qualifier.admits s.motion.direction = true

/-- The state that an entry's action writes to function `f`; none where it writes no state to it (R91). -/
def BeaconEntry.writes (e : BeaconEntry) (f : Fin 32) : Option Bool :=
  if e.parameter % 32 = f.val then
    match e.action with
    | .functionOn => some true
    | .functionOff => some false
    | .cue => none
    | .cap => none
    | .clearCap => none
    | .stop => none
  else none

/-- Function `f` as the entries before `k` that act at a hearing of beacon `id` leave it: what the last of them that
writes it has written, or else its state in the Function Table (R91). -/
def State.functionBefore (s : State) (id : Nat) (k : Fin 16) (f : Fin 32) : Bool :=
  ((List.finRange 16).filterMap (fun j =>
    if j < k ∧ s.beaconActs id j then s.tables.beacon[j].writes f else none)).getLast?.getD s.control.functions[f].on

/-- `n` is the count of cue starts and cue releases that R78 makes for an entry at its taking: none for a THROTTLE, SELECT
or RELEASE; for a FUNCTIONS packet its functions that change and have a cue (R88, R89); for a BEACON packet its acting
entries that start a cue, or change a function that has one (R91). Who owns the part is left out (assumption 37). -/
def State.handsOver (s : State) (e : QueueEntry) (n : Nat) : Prop :=
  match e.packet with
  | .throttle _ _ => n = 0
  | .select => n = 0
  | .release => n = 0
  | .functions group states =>
    n = ((List.finRange 32).filter (fun f => decide (f.val / 8 = group ∧
      s.control.functions[f].on ≠ states.getLsbD (f.val % 8) ∧ s.tables.funcMap[f].cue ≠ none))).length
  | .beacon =>
    n = ((List.finRange 16).filter (fun k => decide (s.beaconActs e.source k ∧
      (s.tables.beacon[k].action = .cue ∨ ∃ f : Fin 32, s.tables.funcMap[f].cue ≠ none ∧
        s.tables.beacon[k].writes f = some (!s.functionBefore e.source k f))))).length

/-- Commands taken one after another, up to the first that stops. -/
def runAll : List Instr → State → Host.Outcome State Fault Refusal
  | [], s => .next s
  | c :: cs, s =>
    match exec c s with
    | .next t => runAll cs t
    | .fault f => .fault f
    | .refused r => .refused r

/-! ## Ranges of the tables -/

/-- R23: the ranges, and no CLOSED regulation without a gap. -/
abbrev TractionTable.inRange (t : TractionTable) : Prop :=
  (∀ v ∈ t.curve.toList, v ≤ 4095) ∧ t.accelRate ≤ 65535 ∧ t.decelRate ≤ 65535 ∧ t.kp ≤ 255 ∧ t.ki ≤ 255 ∧
  t.heavyMargin ≤ 1023 ∧ t.lightMargin ≤ 1023 ∧ t.stallDuty ≤ 1023 ∧ t.stallEmf ≤ 4095 ∧
  (1 ≤ t.stallSteps ∧ t.stallSteps ≤ 255) ∧ (500 ≤ t.currentLimit ∧ t.currentLimit ≤ 10000) ∧
  (t.gapUs = 0 ∨ (100 ≤ t.gapUs ∧ t.gapUs ≤ 1000)) ∧ (5 ≤ t.deadTenths ∧ t.deadTenths ≤ 40 ∧ t.deadTenths % 5 = 0) ∧
  (1000 ≤ t.shortTrip ∧ t.shortTrip ≤ 12000) ∧ ¬(t.regulation = .closedLoop ∧ t.gapUs = 0)

/-- R55. -/
abbrev CadenceTable.inRange (t : CadenceTable) : Prop :=
  (1 ≤ t.edges ∧ t.edges ≤ 8) ∧ (2 ≤ t.debounce ∧ t.debounce ≤ 200) ∧ (1 ≤ t.chuffs ∧ t.chuffs ≤ 8) ∧
  (1 ≤ t.kc ∧ t.kc ≤ 65535) ∧ t.emfFloor ≤ 4095 ∧ t.faultEmf ≤ 4095 ∧ (200 ≤ t.timeout ∧ t.timeout ≤ 10000)

/-- R71. -/
abbrev RadioTable.inRange (t : RadioTable) : Prop :=
  (1 ≤ t.own ∧ t.own ≤ 4095) ∧ t.consist ≤ 4095 ∧ t.rssiFloor ≤ 255 ∧ t.beaconRssi ≤ 255 ∧
  (500 ≤ t.leaseTime ∧ t.leaseTime ≤ 30000) ∧ (100 ≤ t.hostLease ∧ t.hostLease ≤ 5000)

/-- A number that may be none is at most `hi` (R90, R109, R111, R154). -/
abbrev optionInRange (hi : Nat) (o : Option Nat) : Prop := ∀ n, o = some n → n ≤ hi

/-- R90. -/
abbrev FuncEntry.inRange (e : FuncEntry) : Prop := optionInRange 63 e.cue

/-- R95. -/
abbrev BeaconEntry.inRange (e : BeaconEntry) : Prop :=
  e.id ≤ 65535 ∧ e.parameter ≤ 65535 ∧ e.action.clampParameter e.parameter = e.parameter ∧ e.delay ≤ 255 ∧
  (200 ≤ e.rearm ∧ e.rearm ≤ 60000)

/-- R120. -/
abbrev SampleEntry.inRange (e : SampleEntry) : Prop :=
  e.start < flashSize ∧ e.start + e.length ≤ flashSize ∧
  ∀ l, e.loop = some l → l.first < l.stop ∧ l.stop ≤ e.length

/-- R98. -/
abbrev CueEntry.inRange (e : CueEntry) : Prop :=
  e.slot ≤ 127 ∧ e.priority ≤ 7 ∧ e.gain ≤ 255 ∧ e.release ≤ 2000

/-- R109: the ranges, and thresholds that do not fall. -/
abbrev ChuffTable.inRange (t : ChuffTable) : Prop :=
  (∀ o ∈ t.slots.toList, optionInRange 127 o) ∧ t.threshold1 ≤ t.threshold2 ∧ t.threshold2 ≤ t.threshold3 ∧
  t.threshold3 ≤ 4095 ∧ t.gain ≤ 255 ∧ (1 ≤ t.reserve ∧ t.reserve ≤ 3)

/-- R111. -/
abbrev AmbientTable.inRange (t : AmbientTable) : Prop :=
  optionInRange 63 t.stopped ∧ optionInRange 63 t.working ∧ optionInRange 63 t.drifting

/-- R145. -/
abbrev SmokeTable.inRange (t : SmokeTable) : Prop :=
  (100 ≤ t.target ∧ t.target ≤ 250) ∧ (1 ≤ t.hysteresis ∧ t.hysteresis ≤ 20) ∧
  (150 ≤ t.maxTemp ∧ t.maxTemp ≤ 270) ∧ (5 ≤ t.dryRise ∧ t.dryRise ≤ 60) ∧ (60 ≤ t.standby ∧ t.standby ≤ 200) ∧
  (10 ≤ t.idleTimeout ∧ t.idleTimeout ≤ 600) ∧ (10 ≤ t.puffLength ∧ t.puffLength ≤ 500) ∧ t.idleFan ≤ 100 ∧
  t.puffLight ≤ 100 ∧ t.puffNormal ≤ 100 ∧ t.puffHeavy ≤ 100

/-- R154, a channel. -/
abbrev LampEntry.inRange (e : LampEntry) : Prop :=
  e.brightness ≤ 255 ∧ optionInRange 31 e.bound ∧ e.fade ≤ 2550

/-- R154. -/
abbrev LightsTable.inRange (t : LightsTable) : Prop :=
  (∀ e ∈ t.channels.toList, e.inRange) ∧ (20 ≤ t.strobeOn ∧ t.strobeOn ≤ 2000) ∧
  (20 ≤ t.strobeOff ∧ t.strobeOff ≤ 2000)

/-- R165. -/
abbrev SupplyTable.inRange (t : SupplyTable) : Prop :=
  (80 ≤ t.rideThreshold ∧ t.rideThreshold ≤ 250) ∧ (100 ≤ t.rideLimit ∧ t.rideLimit ≤ 5000) ∧
  (55 ≤ t.railMinimum ∧ t.railMinimum ≤ 200) ∧ (1000 ≤ t.budget ∧ t.budget ≤ 15000)

/-- Every table holds values of its ranges (R171). -/
abbrev Tables.inRange (t : Tables) : Prop :=
  t.traction.inRange ∧ t.cadence.inRange ∧ t.radio.inRange ∧ (∀ e ∈ t.funcMap.toList, e.inRange) ∧
  (∀ e ∈ t.beacon.toList, e.inRange) ∧ (∀ e ∈ t.sample.toList, e.inRange) ∧ (∀ e ∈ t.cue.toList, e.inRange) ∧
  t.chuff.inRange ∧ t.ambient.inRange ∧ t.smoke.inRange ∧ t.lights.inRange ∧ t.supply.inRange ∧ t.masterVolume ≤ 255

/-! ## Invariants -/

/-- The high side and the low side of a leg are not on together (R35). -/
def Leg.exclusive (l : Leg) : Prop := l.high = 0 ∨ l.low = false

/-- Neither leg has both switches on (R35). -/
def State.legsExclusive (s : State) : Prop := s.bridge.legA.exclusive ∧ s.bridge.legB.exclusive

/-- The flash has its canonical form. -/
def State.flashWf (s : State) : Prop := Memory.wf s.flash = true

/-- Operator Control holds the Supply Manager's cap, and the Motion Record its budget ceiling (R156). -/
def State.mirrored (s : State) : Prop :=
  s.control.supplyCap = s.supply.cap ∧ s.motion.budget = s.supply.budget

/-- The effective throttle is the figure of R77. -/
def State.effectiveR77 (s : State) : Prop := s.control.effective = s.control.effectiveThrottle

/-- Every queue of the part is within its capacity: 16 notices, 8 packets, 4 contexts, 4 zone caps (R68, R92, R113,
R169). -/
def State.withinCapacity (s : State) : Prop :=
  s.link.notices.length ≤ 16 ∧ s.radio.queue.length ≤ 8 ∧ s.sound.stack.length ≤ 4 ∧ s.control.caps.length ≤ 4

/-- The sample interlock (R128): no erase or write is in flight over bytes that a voice is playing. -/
def State.interlocked (s : State) : Prop :=
  ∀ op, s.store.op = some op → op.kind ≠ .read →
    ∀ i : Fin 8, s.sound.voices[i].active = true →
      rangesOverlap op.address op.count s.sound.voices[i].sample.start s.sound.voices[i].sample.length = false

/-- The heater is on only in WARMING, READY or STANDBY, and the smoke unit is in one of these only in RUN with smoke
enabled, no fault latched, shed level 0 and the supply NORMAL (R138, R139). -/
def State.heaterSafe (s : State) : Prop :=
  (s.smoke.heater = true → s.smoke.state.regulated = true) ∧
  (s.smoke.state.regulated = true →
    s.mode = .run ∧ s.smoke.latch = none ∧ s.control.flags.smoke = true ∧ s.supply.shed = 0 ∧
      s.supply.state = .normal)

/-! ## The commands that are requests -/

/-- The request, with its tag, whose frame arrives with a command of a request row; none for the other rows. -/
def requestOf : Instr → Option Tagged
  | .powerOn _ => none
  | .brownout _ _ _ => none
  | .pinReset _ => none
  | .restartTakesEffect _ => none
  | .linkByte _ _ _ => none
  | .linkGapExpiry _ => none
  | .transmitFrameEnd _ => none
  | .hostLeaseExpiry _ => none
  | .ping _ tag => some { tag := tag, request := .ping }
  | .setModeRun _ tag => some { tag := tag, request := .setMode 1#8 }
  | .setModeConfig _ tag code => some { tag := tag, request := .setMode code }
  | .readTable _ tag table index => some { tag := tag, request := .readTable table index }
  | .writeTable _ tag table index entry => some { tag := tag, request := .writeTable table index entry }
  | .drive _ tag throttle direction => some { tag := tag, request := .drive throttle direction }
  | .releaseDrive _ tag => some { tag := tag, request := .releaseDrive }
  | .stop _ tag => some { tag := tag, request := .stop }
  | .setFunction _ tag function state => some { tag := tag, request := .setFunction function state }
  | .playCue _ tag cue => some { tag := tag, request := .playCue cue }
  | .haltCue _ tag cue => some { tag := tag, request := .haltCue cue }
  | .storeErase _ tag sector => some { tag := tag, request := .storeErase sector }
  | .storeWrite _ tag address data => some { tag := tag, request := .storeWrite address data }
  | .storeRead _ tag address count => some { tag := tag, request := .storeRead address count }
  | .readStatus _ tag => some { tag := tag, request := .readStatus }
  | .readCounters _ tag group clear => some { tag := tag, request := .readCounters group clear }
  | .clearFaultTraction _ tag => some { tag := tag, request := .clearFault 0#8 }
  | .clearFaultSmoke _ tag => some { tag := tag, request := .clearFault 1#8 }
  | .restart _ tag => some { tag := tag, request := .restart }
  | .radioByte _ _ _ => none
  | .radioGapExpiry _ => none
  | .duplicateEntryFreed _ _ => none
  | .interpretationComplete _ => none
  | .ownerLeaseExpiry _ => none
  | .dwellExpiry _ => none
  | .beaconRearm _ _ => none
  | .tractionPeriodExpiry _ _ => none
  | .measurementComplete _ _ => none
  | .shortTrip _ _ => none
  | .ditherGroupStart _ => none
  | .axleEdge _ => none
  | .captureTimerSaturation _ => none
  | .chuffTimerExpiry _ => none
  | .revolutionTimerExpiry _ => none
  | .sensorWatchExpiry _ => none
  | .outputSample _ => none
  | .lineReadComplete _ => none
  | .storeStatusPoll _ _ => none
  | .storeReadComplete _ => none
  | .waitingStatusPoll _ _ => none
  | .temperatureSample _ _ => none
  | .fanBurstExpiry _ => none
  | .lightUpdate _ => none
  | .strobePhaseExpiry _ => none
  | .supplySample _ _ _ _ => none
  | .carrierPeriodStart _ => none
  | .deadTimeElapsed _ => none

/-- The row of the table for the arrival of a request; a CLEAR_FAULT of another target, and a frame that is refused for
its kind or length, have none. -/
def requestRow (after : Nat) (t : Tagged) : Option Instr :=
  match t.request with
  | .ping => some (.ping after t.tag)
  | .setMode code => some (if code = 1#8 then .setModeRun after t.tag else .setModeConfig after t.tag code)
  | .readTable table index => some (.readTable after t.tag table index)
  | .writeTable table index entry => some (.writeTable after t.tag table index entry)
  | .drive throttle direction => some (.drive after t.tag throttle direction)
  | .releaseDrive => some (.releaseDrive after t.tag)
  | .stop => some (.stop after t.tag)
  | .setFunction function state => some (.setFunction after t.tag function state)
  | .playCue cue => some (.playCue after t.tag cue)
  | .haltCue cue => some (.haltCue after t.tag cue)
  | .storeErase sector => some (.storeErase after t.tag sector)
  | .storeWrite address data => some (.storeWrite after t.tag address data)
  | .storeRead address count => some (.storeRead after t.tag address count)
  | .readStatus => some (.readStatus after t.tag)
  | .readCounters group clear => some (.readCounters after t.tag group clear)
  | .clearFault target =>
    if target = 0#8 then some (.clearFaultTraction after t.tag)
    else if target = 1#8 then some (.clearFaultSmoke after t.tag)
    else none
  | .restart => some (.restart after t.tag)
  | .badKind _ => none
  | .badLength _ => none

end Sys2Proof.Machine
end

