-- ==== Sys2Proof/WellFormed.lean ====
section
/-! DEFINITION. Which terms of the syntax a sender can send: what the widths of the operands do not already say. -/

namespace Sys2Proof

/-- A request that a frame can carry: its payload is at most 248 bytes (R167, R177), two of them the table and the
index, or three the address. -/
def Request.wellFormed : Request → Bool
  | .writeTable _ _ entry => entry.length ≤ 246
  | .storeWrite _ data => data.length ≤ 245
  | _ => true

/-- A command that can be sent: a request's bytes fit a frame, SET_MODE_CONFIG does not carry the code of RUN
(R172), and a brownout starts below 5.0 V and ends at 5.5 V or more (R164). -/
def Instr.wellFormed : Instr → Bool
  | .writeTable _ _ _ _ entry => entry.length ≤ 246
  | .storeWrite _ _ _ data => data.length ≤ 245
  | .setModeConfig _ _ code => code ≠ 1#8
  | .brownout _ lowMv endMv => lowMv < 5000 && 5500 ≤ endMv
  | _ => true

end Sys2Proof
end

