-- ==== Sys2Proof/Certificates/Slice0/Obligations.lean ====
section
/-! DEFINITION. The statements about the model: what each command does and leaves alone, what the tables' bytes stand
for, and the invariants every step keeps. "A quiet part" below is a state that is `ready`: nothing on the link's line,
in its slot, in service or waiting, and a flash port with nothing to begin. "A rested part" is any state between two
events (`rested`). -/

open Sys2Proof Sys2Proof.Machine

/-! ## The step and the resets -/

/-- A step takes the command at the front of the queue and runs it with the queue's rest; on an empty queue the part
idles, which is the model's choice (assumption 4). -/
def Obligations.StepTakesFrontCommand : Prop :=
  (∀ (c : Instr) (s : State), step { s with pending := c :: s.pending } = exec c s) ∧
  (∀ s : State, s.pending = [] → step s = .next s)

/-- Every command is answered with a next state that holds the rest of the queue as it stood, unless a line outside the
flash is being read. -/
def Obligations.EveryCommandAnswersAndKeepsQueue : Prop :=
  ∀ (c : Instr) (s : State), s.lineInFlash = true → ∃ t, exec c s = .next t ∧ t.pending = s.pending

/-- The four resets leave every block at its values after a reset (R175 and the mode rules of each block): the tables at
their defaults but at RESTART, which keeps them. A brownout outside its two levels and a restart with no OK reply of a
RESTART on the line are impossible events (assumptions 3 and 13): time passes. The values the spec does not give are
those of assumption 6, and of assumption 47 for the record of a FREE voice. -/
def Obligations.ResetsReturnToResetValues : Prop :=
  (∀ (after : Nat) (s : State),
    ∃ t, exec (.powerOn after) s = .next t ∧ t.isReset .powerOn Tables.defaults ∧ t.pending = s.pending) ∧
  (∀ (after : Nat) (s : State),
    ∃ t, exec (.pinReset after) s = .next t ∧ t.isReset .pin Tables.defaults ∧ t.pending = s.pending) ∧
  (∀ (after lowMv endMv : Nat) (s : State), lowMv < 5000 → 5500 ≤ endMv →
    ∃ t, exec (.brownout after lowMv endMv) s = .next t ∧ t.isReset .brownout Tables.defaults ∧
      t.pending = s.pending) ∧
  (∀ (after lowMv endMv : Nat) (s : State), (5000 ≤ lowMv ∨ endMv < 5500) → s.rested →
    ∃ t, exec (.brownout after lowMv endMv) s = .next t ∧ t.now = s.now + after ∧ s.keeps [.now] t) ∧
  (∀ (after : Nat) (s : State), s.link.restartReply = true →
    ∃ t, exec (.restartTakesEffect after) s = .next t ∧ t.isReset .restart s.tables ∧ t.pending = s.pending) ∧
  (∀ (after : Nat) (s : State), s.link.restartReply = false → s.rested →
    ∃ t, exec (.restartTakesEffect after) s = .next t ∧ t.now = s.now + after ∧ s.keeps [.now] t)

/-- A reset leaves the flash as it was outside an erase or write it cuts off (R131, R175); inside a write it cuts off,
bits have only changed from 1 to 0 (R129). What the bytes then hold is free, and that a cut-off write leaves the rest of its
page alone is the model's choice, for R131 lets its page be partly changed (assumption 8). -/
def Obligations.ResetKeepsFlashOutsideCutOff : Prop :=
  ∀ (after lowMv endMv : Nat) (s : State) (c : Instr), s.flashWf →
    (c = .powerOn after ∨ c = .pinReset after ∨ (c = .brownout after lowMv endMv ∧ lowMv < 5000 ∧ 5500 ≤ endMv) ∨
      ((c = .restartTakesEffect after ∨ c = .transmitFrameEnd after) ∧ s.link.restartReply = true)) →
    ∃ t, exec c s = .next t ∧ t.flashWf ∧
      (∀ a, (∀ op, s.store.op = some op → op.kind ≠ .read → op.begun.isSome = true →
          a < op.address ∨ op.address + op.count ≤ a) →
        Memory.read t.flash a = Memory.read s.flash a) ∧
      (∀ op, s.store.op = some op → op.kind = .write →
        ∀ a, Memory.read t.flash a &&& Memory.read s.flash a = Memory.read t.flash a)

/-! ## The control link -/

/-- The receiver (R167): hunting for a start marker, collecting a frame, abandoning it as FRAMING, discarding it as
CHECKSUM; and the expiry of its gap timer, which before its time, or with no frame being collected, does nothing
(assumptions 2 and 3). A byte without its stop bit while hunting is ignored (assumption 10). -/
def Obligations.LinkReceiverTakesBytes : Prop :=
  (∀ (after : Nat) (byte : Byte) (stopBit : Bool) (s : State), s.rested → s.link.receiver = .hunting →
    (stopBit = false ∨ byte ≠ 0x7E#8) →
    ∃ t, exec (.linkByte after byte stopBit) s = .next t ∧ t.now = s.now + after ∧ s.keeps [.now] t) ∧
  (∀ (after : Nat) (s : State), s.rested → s.link.receiver = .hunting →
    ∃ t, exec (.linkByte after 0x7E#8 true) s = .next t ∧ t.now = s.now + after ∧
      t.link = { s.link with receiver := .collecting [], gap := some { since := s.now + after, ticks := 10000 } } ∧
      s.keeps [.now, .link] t) ∧
  (∀ (after : Nat) (byte : Byte) (stopBit : Bool) (bytes : List Byte) (s : State), s.rested →
    s.link.receiver = .collecting bytes →
    let all := bytes ++ [byte]
    let length := (all.headD 0#8).toNat
    ((stopBit = false ∨ length < 2 ∨ 250 < length) →
      ∃ t, exec (.linkByte after byte stopBit) s = .next t ∧ t.now = s.now + after ∧
        t.link = { s.link with receiver := .hunting, gap := none } ∧
        t.counters = { s.counters with
          link := { s.counters.link with framing := min 65535 (s.counters.link.framing + 1) } } ∧
        s.keeps [.now, .link, .counters] t) ∧
    (stopBit = true → 2 ≤ length → length ≤ 250 → all.length < length + 2 →
      ∃ t, exec (.linkByte after byte stopBit) s = .next t ∧ t.now = s.now + after ∧
        t.link = { s.link with receiver := .collecting all,
                               gap := some { since := s.now + after, ticks := 10000 } } ∧
        s.keeps [.now, .link] t) ∧
    (stopBit = true → 2 ≤ length → length ≤ 250 → length + 2 ≤ all.length → crc8 bytes ≠ byte →
      ∃ t, exec (.linkByte after byte stopBit) s = .next t ∧ t.now = s.now + after ∧
        t.link = { s.link with receiver := .hunting, gap := none } ∧
        t.counters = { s.counters with
          link := { s.counters.link with checksum := min 65535 (s.counters.link.checksum + 1) } } ∧
        s.keeps [.now, .link, .counters] t)) ∧
  (∀ (after : Nat) (bytes : List Byte) (timer : Timer) (s : State), s.rested →
    s.link.receiver = .collecting bytes → s.link.gap = some timer →
    (timer.since + timer.ticks ≤ s.now + after →
      ∃ t, exec (.linkGapExpiry after) s = .next t ∧ t.now = s.now + after ∧
        t.link = { s.link with receiver := .hunting, gap := none } ∧
        t.counters = { s.counters with
          link := { s.counters.link with framing := min 65535 (s.counters.link.framing + 1) } } ∧
        s.keeps [.now, .link, .counters] t) ∧
    (s.now + after < timer.since + timer.ticks →
      ∃ t, exec (.linkGapExpiry after) s = .next t ∧ t.now = s.now + after ∧ s.keeps [.now] t)) ∧
  (∀ (after : Nat) (s : State), s.rested → s.link.receiver = .hunting →
    ∃ t, exec (.linkGapExpiry after) s = .next t ∧ t.now = s.now + after ∧ s.keeps [.now] t)

/-- The bytes of a request's frame (R177, R179), sent one by one to a hunting receiver, come to exactly what the
request's own row of the table does (R167, R168; assumption 5): no bit of the frame is dropped. -/
def Obligations.FrameBytesEqualRequestRow : Prop :=
  ∀ (after : Nat) (q : Tagged) (c : Instr) (s : State), requestRow after q = some c → c.wellFormed = true →
    s.rested → s.link.receiver = .hunting → s.link.gap = none →
    runAll (lineBytes after (requestFrame q.tag q.request)) s = exec c s

/-- Frames that are no request (R170 steps 1 and 2): a kind outside 0x01..0x11 is BAD_KIND, a payload of another length
than its kind's is BAD_LENGTH, but for a WRITE_TABLE that names none of the thirteen tables, which is NO_ENTRY whatever its
length. Such a frame, sent byte by byte to a quiet part, is answered with the code alone and changes nothing. -/
def Obligations.UnreadableFramesAreRefused : Prop :=
  (∀ (kind : Byte) (payload : List Byte), (kind.toNat = 0 ∨ 0x11 < kind.toNat) →
    decodeRequest kind payload = .badKind kind) ∧
  (∀ (r : Request) (payload : List Byte), (∀ a b c, r ≠ .writeTable a b c) → (∀ a b, r ≠ .storeWrite a b) →
    (∀ k, r ≠ .badKind k) → (∀ k, r ≠ .badLength k) → payload.length ≠ (requestPayload r).length →
    decodeRequest (requestKind r) payload = .badLength (requestKind r)) ∧
  decodeRequest 0x04#8 [] = .badLength 0x04#8 ∧
  (∀ table : Byte, (table.toNat < 13 → decodeRequest 0x04#8 [table] = .badLength 0x04#8) ∧
    (13 ≤ table.toNat → decodeRequest 0x04#8 [table] = .writeTable table 0#8 [])) ∧
  (∀ payload : List Byte, payload.length < 3 → decodeRequest 0x0C#8 payload = .badLength 0x0C#8) ∧
  (∀ (kind : Byte) (s : State), s.perform (.badKind kind) = (s, some (.badKind, [])) ∧
    s.perform (.badLength kind) = (s, some (.badLength, []))) ∧
  -- the frame's bytes at the receiver
  (∀ (after : Nat) (kind tag : Byte) (payload : List Byte) (code : Result) (s : State), s.ready →
    s.link.receiver = .hunting → s.link.gap = none → payload.length ≤ 248 →
    (code = .badKind ∧ (kind.toNat = 0 ∨ 0x11 < kind.toNat) ∨
      code = .badLength ∧ decodeRequest kind payload = .badLength kind ∨
      code = .noEntry ∧ kind = 0x04#8 ∧ ∃ table : Byte, payload = [table] ∧ 13 ≤ table.toNat) →
    ∃ t, runAll (lineBytes after (frameBytes kind tag payload)) s = .next t ∧ t.now = s.now + after ∧
      t.link.onLine = some (.reply { kind := kind, tag := tag, result := code, content := [] }) ∧
      t.link.slot = none ∧ t.link.inService = none ∧ t.link.notices = [] ∧ s.keeps [.now, .link] t)

/-- Where a request goes (R168, R169), whatever its row: into service when nothing is in service, its effect then being
that of `State.perform`, with its reply in the slot's place that is free; into the waiting place when something is in
service; dropped as OVERRUN when both places are taken. Every one restarts a running host lease timer (R170). -/
def Obligations.RequestsEnterTheBuffer : Prop :=
  ∀ (c : Instr) (q : Tagged) (s : State), requestOf c = some q → s.rested →
    (∀ v w, s.link.inService = some v → s.link.waiting = some w →
      ∃ t, exec c s = .next t ∧
        t.counters = { s.counters with
          link := { s.counters.link with overrun := min 65535 (s.counters.link.overrun + 1) } } ∧
        t.link = { s.link with hostLease := s.leaseRestarted t.now } ∧
        s.keeps [.now, .link, .counters] t) ∧
    (∀ v, s.link.inService = some v → s.link.waiting = none →
      ∃ t, exec c s = .next t ∧
        t.link = { s.link with waiting := some q, hostLease := s.leaseRestarted t.now } ∧
        s.keeps [.now, .link] t) ∧
    (s.link.inService = none →
      ∃ t, exec c s = .next t ∧
        let p := ({ s with now := t.now }.renewHostLease).perform q.request
        p.1.keeps [.link, .store] t ∧
        match p.2 with
        | none => t.link.inService = some { tag := q.tag, request := q.request, stage := .working }
        | some (result, content) =>
          let r := replyTo q.tag q.request result content
          (s.link.slot.isSome = true → t.link.slot = s.link.slot ∧
            t.link.inService = some { tag := q.tag, request := q.request, stage := .built r }) ∧
          (s.link.slot = none → s.link.onLine.isSome = true → t.link.slot = some r ∧ t.link.onLine = s.link.onLine) ∧
          (s.link.onLine = none → t.link.onLine = some (.reply r) ∧ t.link.slot = none))

/-- The end of a frame on the line (R168, R169): the reply in the slot goes before every notice, the oldest notice goes
next, a built reply moves up into the slot, and the waiting request then enters service with its effect; a STORE_READ in
service stays there meanwhile, and so does a RESTART from its reply to the restart (assumption 12); and the end of a RESTART's
OK reply is the restart (R175, assumption 13), with the values of
assumptions 6 and 47 where the spec gives none. -/
def Obligations.TransmitterTakesReplyBeforeNotices : Prop :=
  (∀ (after : Nat) (x : Tx) (s : State), s.rested → s.link.onLine = some x → s.link.restartReply = false →
    (∀ r, s.link.slot = some r → s.link.inService = none →
      ∃ t, exec (.transmitFrameEnd after) s = .next t ∧ t.now = s.now + after ∧
        t.link = { s.link with onLine := some (.reply r), slot := none } ∧ s.keeps [.now, .link] t) ∧
    (∀ r v next, s.link.slot = some r → s.link.inService = some v → v.stage = .built next → v.request ≠ .restart →
      s.link.waiting = none →
      ∃ t, exec (.transmitFrameEnd after) s = .next t ∧ t.now = s.now + after ∧
        t.link = { s.link with onLine := some (.reply r), slot := some next, inService := none } ∧
        s.keeps [.now, .link] t) ∧
    (∀ r v next, s.link.slot = some r → s.link.inService = some v → v.stage = .built next → v.request = .restart →
      ∃ t, exec (.transmitFrameEnd after) s = .next t ∧ t.now = s.now + after ∧
        t.link = { s.link with onLine := some (.reply r), slot := some next,
                               inService := some { v with stage := .restarting } } ∧
        s.keeps [.now, .link] t) ∧
    (∀ n rest, s.link.slot = none → s.link.inService = none → s.link.notices = n :: rest →
      ∃ t, exec (.transmitFrameEnd after) s = .next t ∧ t.now = s.now + after ∧
        t.link = { s.link with onLine := some (.notice n), notices := rest } ∧ s.keeps [.now, .link] t) ∧
    (s.link.slot = none → s.link.inService = none → s.link.notices = [] →
      ∃ t, exec (.transmitFrameEnd after) s = .next t ∧ t.now = s.now + after ∧
        t.link = { s.link with onLine := none } ∧ s.keeps [.now, .link] t)) ∧
  (∀ (after : Nat) (s : State), s.link.restartReply = true →
    ∃ t, exec (.transmitFrameEnd after) s = .next t ∧ t.isReset .restart s.tables ∧ t.pending = s.pending) ∧
  -- the waiting request enters service
  (∀ (after : Nat) (x : Tx) (r next : Reply) (v : Service) (w : Tagged) (s : State), s.rested →
    s.link.onLine = some x → s.link.restartReply = false → s.link.slot = some r → s.link.inService = some v →
    v.stage = .built next → v.request ≠ .restart → s.link.waiting = some w →
    let moved : State := { s with
      now := s.now + after,
      link := { s.link with onLine := some (.reply r), slot := some next, inService := none, waiting := none } }
    let p := moved.perform w.request
    ∃ t, exec (.transmitFrameEnd after) s = .next t ∧ p.1.keeps [.link, .store] t ∧
      t.link = { p.1.link with inService := some { tag := w.tag, request := w.request, stage := match p.2 with
        | none => .working
        | some (result, content) => .built (replyTo w.tag w.request result content) } }) ∧
  -- a frame ends while a STORE_READ, or a RESTART whose reply is placed, stays in service
  (∀ (after : Nat) (x : Tx) (v : Service) (s : State), s.rested → s.link.onLine = some x →
    s.link.restartReply = false → s.link.inService = some v → (v.stage = .working ∨ v.stage = .restarting) →
    ∃ t, exec (.transmitFrameEnd after) s = .next t ∧ t.now = s.now + after ∧ s.keeps [.now, .link] t ∧
      (∀ r, s.link.slot = some r → t.link = { s.link with onLine := some (.reply r), slot := none }) ∧
      (∀ n rest, s.link.slot = none → s.link.notices = n :: rest →
        t.link = { s.link with onLine := some (.notice n), notices := rest }) ∧
      (s.link.slot = none → s.link.notices = [] → t.link = { s.link with onLine := none }))

/-! ## Requests of the Link Port -/

/-- PING, READ_TABLE and RESTART on a quiet part (R171, R175): each is answered, and nothing but the link changes. A
RESTART stays in service until it takes effect (assumption 12). -/
def Obligations.PingReadTableAndRestartAreAnswered : Prop :=
  (∀ (after : Nat) (tag : Byte) (s : State), s.ready →
    ∃ t, exec (.ping after tag) s = .next t ∧ t.now = s.now + after ∧
      t.answered tag .ping .ok [0x07#8, 0x12#8, 0x01#8] ∧ t.link.notices = [] ∧ s.keeps [.now, .link] t) ∧
  (∀ (after : Nat) (tag table index : Byte) (s : State), s.ready → validEntry table.toNat index.toNat = true →
    ∃ t, exec (.readTable after tag table index) s = .next t ∧ t.now = s.now + after ∧
      t.answered tag (.readTable table index) .ok (table :: index :: t.entryBytes table.toNat index.toNat) ∧
      entryLength table.toNat = some (t.entryBytes table.toNat index.toNat).length ∧
      t.link.notices = [] ∧ s.keeps [.now, .link] t) ∧
  (∀ (after : Nat) (tag table index : Byte) (s : State), s.ready → validEntry table.toNat index.toNat = false →
    ∃ t, exec (.readTable after tag table index) s = .next t ∧ t.now = s.now + after ∧
      t.answered tag (.readTable table index) .noEntry [] ∧ t.link.notices = [] ∧ s.keeps [.now, .link] t) ∧
  (∀ (after : Nat) (tag : Byte) (s : State), s.ready →
    ∃ t, exec (.restart after tag) s = .next t ∧ t.now = s.now + after ∧
      t.link.onLine = some (.reply (replyTo tag .restart .ok [])) ∧ t.link.restartReply = true ∧
      t.link.inService = some { tag := tag, request := .restart, stage := .restarting } ∧ t.link.notices = [] ∧
      s.keeps [.now, .link] t)

/-- SET_MODE RUN on a quiet part (R22, R40, R56, R112, R146, R166, R172): every block takes its entry to RUN, the smoke state
is decided and an ambient update of voice 0 is made; the MODE notice is the last of the queue, behind a SUPPLY notice
(assumption 14); the fault time 0 is assumption 6. In RUN nothing changes. -/
def Obligations.SetModeRunEntersRun : Prop :=
  (∀ (after : Nat) (tag : Byte) (s : State), s.ready → s.mode = .config →
    ∃ t, exec (.setModeRun after tag) s = .next t ∧ t.now = s.now + after ∧ t.mode = .run ∧
      t.answered tag (.setMode 1#8) .ok [] ∧ t.link.notices.getLast? = some (t.noticed (.mode .run)) ∧
      t.motion = {} ∧ t.bridge.period = some { since := t.now, ticks := 8000 } ∧
      t.bridge.state = (if s.supply.state = .depleted ∨ s.tables.traction.restMode = .coast then .coast else .brake) ∧
      t.bridge.tripRun = 0 ∧
      t.bridge.active = 0 ∧ t.bridge.pendingLevel = 0 ∧ t.bridge.awaiting = false ∧
      t.cadence = Cadence.entry s.tables.cadence s.cadence.revCount ∧
      t.sound.reserve = s.tables.chuff.reserve ∧ t.sound.ambient = .stopped ∧
      t.supply.budget = 1023 ∧ t.supply.state = s.supply.state ∧
      t.supply.shed = (if s.supply.state = .normal then s.supply.shed else 2) ∧
      t.smoke.stoppedFrom = some t.now ∧
      (let rest (state : SmokeState) : Smoke := { s.smoke with
         state := state, heater := false, window := none, fan := 0, burst := none, stoppedFrom := some t.now }
       (s.smoke.latch ≠ none → t.smoke = rest .fault) ∧
       (s.smoke.latch = none → s.control.flags.smoke = false → t.smoke = rest .off) ∧
       (s.smoke.latch = none → s.control.flags.smoke = true → (t.supply.shed ≠ 0 ∨ s.supply.state ≠ .normal) →
         t.smoke = rest .shed) ∧
       (s.smoke.latch = none → s.control.flags.smoke = true → t.supply.shed = 0 → s.supply.state = .normal →
         s.smoke.state = .off → t.smoke.state = (if s.smoke.hotEnough s.tables.smoke then .ready else .warming) ∧
           t.smoke.heater = false ∧ t.smoke.window = none)) ∧
      s.updatesAmbient s.supply.state .stopped {} s.sound.voices[(0 : Fin 8)] t.sound.voices[(0 : Fin 8)] ∧
      (∀ i : Fin 8, i ≠ 0 → t.sound.voices[i] = s.sound.voices[i]) ∧
      (s.supply.state = .normal → t.link.notices = [t.noticed (.mode .run)]) ∧
      (s.supply.state ≠ .normal → t.link.notices = [t.noticed (.supply s.supply.state 2 s.supply.cap s.supply.track
        s.supply.rail s.supply.current .levelUp), t.noticed (.mode .run)]) ∧
      s.keeps [.now, .mode, .link, .motion, .bridge, .cadence, .sound, .store, .smoke, .supply] t) ∧
  (∀ (after : Nat) (tag : Byte) (s : State), s.ready → s.mode = .run →
    ∃ t, exec (.setModeRun after tag) s = .next t ∧ t.now = s.now + after ∧
      t.answered tag (.setMode 1#8) .ok [] ∧ t.link.notices = [] ∧ s.keeps [.now, .link] t)

/-- SET_MODE with any other code on a quiet part (R172): with demand code 0 in RUN every block takes its entry to CONFIG
and one MODE notice is sent, and no CUE_DONE for the host's voices and scenes that end there (R108, R118); a burst being
collected is abandoned without count, and the assembler discards the line until
its gap (R73). With a demand code above 0 it is refused with MOVING; in CONFIG nothing changes. A code that is neither mode
is answered OK_CLAMPED. The fault time and the dwell length 0 are assumption 6, the record of a FREE voice is assumption 47,
and off seen no where no fault is latched assumption 53. -/
def Obligations.SetModeConfigEntersConfig : Prop :=
  ∀ (after : Nat) (tag code : Byte) (s : State), s.ready → code ≠ 1#8 →
    let result := if code = 0#8 then Result.ok else .okClamped
    (s.mode = .run → s.motion.demandCode = 0 →
      ∃ t, exec (.setModeConfig after tag code) s = .next t ∧ t.now = s.now + after ∧ t.mode = .config ∧
        t.answered tag (.setMode code) result [] ∧ t.link.notices = [t.noticed (.mode .config)] ∧
        t.link.hostLease = none ∧ t.motion = {} ∧
        t.bridge.state = .off ∧ t.bridge.period = none ∧ t.bridge.active = 0 ∧ t.bridge.pendingLevel = 0 ∧
        t.bridge.legA.high = 0 ∧ t.bridge.legA.low = false ∧ t.bridge.legB.high = 0 ∧ t.bridge.legB.low = false ∧
        t.cadence = Cadence.entry s.tables.cadence s.cadence.revCount ∧
        t.control = { ({} : Control) with supplyCap := s.supply.cap } ∧
        t.radio = { s.radio with
          assembler := if s.radio.assembler = .quiet then .quiet else .discarding,
          queue := [], duplicates := Vector.replicate 8 none, episode := false } ∧
        t.sound = { reserve := s.tables.chuff.reserve } ∧ t.store.buffers = Vector.replicate 8 {} ∧
        t.store.op = s.store.op ∧ t.store.port = s.store.port ∧
        t.smoke = { ({} : Smoke) with latch := s.smoke.latch, offSeen := s.smoke.latch.isSome,
                                      temperature := s.smoke.temperature } ∧
        t.light = { s.light with lamps := Vector.replicate 8 {}, ditch := .steady } ∧
        t.supply = { s.supply with shed := 0, overRun := 0, underRun := 0, budget := 1023 } ∧
        s.keeps [.now, .mode, .link, .radio, .control, .motion, .bridge, .cadence, .sound, .store, .smoke, .light,
                 .supply] t) ∧
    (s.mode = .run → 0 < s.motion.demandCode →
      ∃ t, exec (.setModeConfig after tag code) s = .next t ∧ t.now = s.now + after ∧
        t.answered tag (.setMode code) .moving [] ∧ t.link.notices = [] ∧ s.keeps [.now, .link] t) ∧
    (s.mode = .config →
      ∃ t, exec (.setModeConfig after tag code) s = .next t ∧ t.now = s.now + after ∧
        t.answered tag (.setMode code) result [] ∧ t.link.notices = [] ∧ s.keeps [.now, .link] t)

/-- What a WRITE_TABLE on a quiet part is refused for, in the order of R170 and R171: the entry's length, the table and
index, a config-only field in RUN, and CLOSED regulation without a gap. A refused write writes nothing. -/
def Obligations.WriteTableRefusals : Prop :=
  ∀ (after : Nat) (tag table index : Byte) (entry : List Byte) (s : State), s.ready →
    ((∃ n, entryLength table.toNat = some n ∧ entry.length ≠ n) →
      ∃ t, exec (.writeTable after tag table index entry) s = .next t ∧ t.now = s.now + after ∧
        t.answered tag (.writeTable table index entry) .badLength [] ∧ s.keeps [.now, .link] t) ∧
    ((∀ n, entryLength table.toNat = some n → entry.length = n) → validEntry table.toNat index.toNat = false →
      ∃ t, exec (.writeTable after tag table index entry) s = .next t ∧ t.now = s.now + after ∧
        t.answered tag (.writeTable table index entry) .noEntry [] ∧ s.keeps [.now, .link] t) ∧
    (entryLength table.toNat = some entry.length → validEntry table.toNat index.toNat = true → s.mode = .run →
      s.tables.configOnlyDiffers table.toNat entry = true →
      ∃ t, exec (.writeTable after tag table index entry) s = .next t ∧ t.now = s.now + after ∧
        t.answered tag (.writeTable table index entry) .wrongMode [] ∧ s.keeps [.now, .link] t) ∧
    (table = 0#8 → index = 0#8 → entry.length = 59 →
      (s.mode = .run → s.tables.configOnlyDiffers 0 entry = false) →
      (TractionTable.decode entry).1.regulation = .closedLoop → (TractionTable.decode entry).1.gapUs = 0 →
      ∃ t, exec (.writeTable after tag table index entry) s = .next t ∧ t.now = s.now + after ∧
        t.answered tag (.writeTable table index entry) .conflict [] ∧ s.keeps [.now, .link] t)

/-- A WRITE_TABLE on a quiet part stores the entry whole and answers with the entry as stored (R171): an entry of its ranges
is stored as it is and answered OK; an entry with a field outside its range is stored clamped and answered OK_CLAMPED; in RUN
the config-only fields must stand as they are. Every other table keeps its contents. A FUNCMAP write derives the flags anew,
a BEACON write arms its entry, a CADENCE write can end the sensor watch, the fault then by the table's new values (assumption
43), with no chuff interval where they give no interval (assumption 42), a LIGHTS write that makes a channel FIREBOX sets its
level to 0, and one of entry 8 leaves the running phase alone, its reply carrying the phase, ON as 1 (assumption 28), and the
ms left, rounded up (assumption 39). -/
def Obligations.WriteTableStoresEntry : Prop :=
  (∀ (after : Nat) (tag : Byte) (n : TractionTable) (s : State), s.ready → s.mode = .config → n.inRange →
    ∃ t, exec (.writeTable after tag 0 0 n.encode) s = .next t ∧ t.now = s.now + after ∧
      t.answered tag (.writeTable 0 0 n.encode) .ok (0 :: 0 :: n.encode) ∧
      t.tables = { s.tables with traction := n } ∧ s.keeps [.now, .link, .tables] t) ∧
  (∀ (after : Nat) (tag : Byte) (n : CadenceTable) (s : State), s.ready → s.mode = .config → s.cadence.watch = none →
    n.inRange →
    ∃ t, exec (.writeTable after tag 1 0 n.encode) s = .next t ∧ t.now = s.now + after ∧
      t.answered tag (.writeTable 1 0 n.encode) .ok (1 :: 0 :: n.encode) ∧
      t.tables = { s.tables with cadence := n } ∧ s.keeps [.now, .link, .tables] t) ∧
  (∀ (after : Nat) (tag : Byte) (n : RadioTable) (s : State), s.ready → s.mode = .config → n.inRange →
    ∃ t, exec (.writeTable after tag 2 0 n.encode) s = .next t ∧ t.now = s.now + after ∧
      t.answered tag (.writeTable 2 0 n.encode) .ok (2 :: 0 :: n.encode) ∧
      t.tables = { s.tables with radio := n } ∧ s.keeps [.now, .link, .tables] t) ∧
  (∀ (after : Nat) (tag : Byte) (k : Fin 128) (n : SampleEntry) (s : State), s.ready → n.inRange →
    ∃ t, exec (.writeTable after tag 5 (BitVec.ofNat 8 k.val) n.encode) s = .next t ∧ t.now = s.now + after ∧
      t.answered tag (.writeTable 5 (BitVec.ofNat 8 k.val) n.encode) .ok (5 :: BitVec.ofNat 8 k.val :: n.encode) ∧
      t.tables = { s.tables with sample := s.tables.sample.set k n } ∧ s.keeps [.now, .link, .tables] t) ∧
  (∀ (after : Nat) (tag : Byte) (k : Fin 64) (entry : List Byte) (s : State), s.ready → entry.length = 9 →
    let p := CueEntry.decode entry
    ∃ t, exec (.writeTable after tag 6 (BitVec.ofNat 8 k.val) entry) s = .next t ∧ t.now = s.now + after ∧
      t.answered tag (.writeTable 6 (BitVec.ofNat 8 k.val) entry) (if p.2 then .okClamped else .ok)
        (6 :: BitVec.ofNat 8 k.val :: p.1.encode) ∧
      t.tables = { s.tables with cue := s.tables.cue.set k p.1 } ∧ p.1.inRange ∧ s.keeps [.now, .link, .tables] t) ∧
  (∀ (after : Nat) (tag : Byte) (entry : List Byte) (s : State), s.ready → entry.length = 16 →
    let p := SmokeTable.decode entry
    ∃ t, exec (.writeTable after tag 9 0 entry) s = .next t ∧ t.now = s.now + after ∧
      t.answered tag (.writeTable 9 0 entry) (if p.2 then .okClamped else .ok) (9 :: 0 :: p.1.encode) ∧
      t.tables = { s.tables with smoke := p.1 } ∧ p.1.inRange ∧ s.keeps [.now, .link, .tables] t) ∧
  (∀ (after : Nat) (tag : Byte) (entry : List Byte) (s : State), s.ready → entry.length = 8 →
    let p := SupplyTable.decode entry
    ∃ t, exec (.writeTable after tag 11 0 entry) s = .next t ∧ t.now = s.now + after ∧
      t.answered tag (.writeTable 11 0 entry) (if p.2 then .okClamped else .ok) (11 :: 0 :: p.1.encode) ∧
      t.tables = { s.tables with supply := p.1 } ∧ p.1.inRange ∧ s.keeps [.now, .link, .tables] t) ∧
  (∀ (after : Nat) (tag volume : Byte) (s : State), s.ready →
    ∃ t, exec (.writeTable after tag 12 0 [volume]) s = .next t ∧ t.now = s.now + after ∧
      t.answered tag (.writeTable 12 0 [volume]) .ok [12, 0, volume] ∧
      t.tables = { s.tables with masterVolume := volume.toNat } ∧ s.keeps [.now, .link, .tables] t) ∧
  -- TRACTION, CADENCE, RADIO and SAMPLE with any bytes, in either mode
  (∀ (after : Nat) (tag : Byte) (entry : List Byte) (s : State), s.ready → entry.length = 59 →
    (s.mode = .run → s.tables.configOnlyDiffers 0 entry = false) →
    let p := TractionTable.decode entry
    ¬(p.1.regulation = .closedLoop ∧ p.1.gapUs = 0) →
    ∃ t, exec (.writeTable after tag 0 0 entry) s = .next t ∧ t.now = s.now + after ∧
      t.answered tag (.writeTable 0 0 entry) (if p.2 then .okClamped else .ok) (0 :: 0 :: p.1.encode) ∧
      t.tables = { s.tables with traction := p.1 } ∧ p.1.inRange ∧ s.keeps [.now, .link, .tables] t) ∧
  (∀ (after : Nat) (tag : Byte) (entry : List Byte) (s : State), s.ready → entry.length = 12 →
    (s.mode = .run → s.tables.configOnlyDiffers 1 entry = false) →
    let p := CadenceTable.decode entry
    ((∀ since, s.cadence.watch = some since → (s.now + after - since) / 2000 < p.1.timeout) →
      ∃ t, exec (.writeTable after tag 1 0 entry) s = .next t ∧ t.now = s.now + after ∧
        t.answered tag (.writeTable 1 0 entry) (if p.2 then .okClamped else .ok) (1 :: 0 :: p.1.encode) ∧
        t.tables = { s.tables with cadence := p.1 } ∧ p.1.inRange ∧ s.keeps [.now, .link, .tables] t) ∧
    (∀ since, s.cadence.watch = some since → p.1.timeout ≤ (s.now + after - since) / 2000 →
      p.1.sensorMode = .sensor →
      ∃ t, exec (.writeTable after tag 1 0 entry) s = .next t ∧ t.now = s.now + after ∧
        t.answered tag (.writeTable 1 0 entry) (if p.2 then .okClamped else .ok) (1 :: 0 :: p.1.encode) ∧
        t.link.notices = [t.noticed (.sensor true s.cadence.inUse s.cadence.revCount)] ∧
        t.tables = { s.tables with cadence := p.1 } ∧
        t.cadence = { s.cadence with watch := none, faultFlag := true } ∧
        s.keeps [.now, .link, .tables, .cadence] t) ∧
    (∀ since, s.cadence.watch = some since → p.1.timeout ≤ (s.now + after - since) / 2000 →
      p.1.sensorMode = .auto → (s.motion.emf = 0 ∨ s.motion.emf < p.1.emfFloor) →
      ∃ t, exec (.writeTable after tag 1 0 entry) s = .next t ∧ t.now = s.now + after ∧
        t.answered tag (.writeTable 1 0 entry) (if p.2 then .okClamped else .ok) (1 :: 0 :: p.1.encode) ∧
        t.link.notices = [t.noticed (.sensor true .synthetic s.cadence.revCount)] ∧
        t.tables = { s.tables with cadence := p.1 } ∧
        t.cadence.watch = none ∧ t.cadence.faultFlag = true ∧ t.cadence.inUse = .synthetic ∧
        t.cadence.revInterval = none ∧ t.cadence.chuffInterval = none ∧ t.cadence.revCount = s.cadence.revCount ∧
        s.keeps [.now, .link, .tables, .cadence] t) ∧
    (∀ since, s.cadence.watch = some since → p.1.timeout ≤ (s.now + after - since) / 2000 →
      p.1.sensorMode = .auto → s.motion.emf ≠ 0 → p.1.emfFloor ≤ s.motion.emf →
      let r := max 10 (min (p.1.kc * 100 / s.motion.emf) 65535)
      ∃ t, exec (.writeTable after tag 1 0 entry) s = .next t ∧ t.now = s.now + after ∧
        t.answered tag (.writeTable 1 0 entry) (if p.2 then .okClamped else .ok) (1 :: 0 :: p.1.encode) ∧
        t.tables = { s.tables with cadence := p.1 } ∧
        t.cadence.watch = none ∧ t.cadence.faultFlag = true ∧ t.cadence.inUse = .synthetic ∧
        t.cadence.revInterval = some r ∧ t.cadence.revTimer = some { since := t.now, ticks := r * 200 } ∧
        t.cadence.chuffInterval = some (max 1 (r / p.1.chuffs)) ∧
        t.cadence.revCount = (s.cadence.revCount + 1) % 4294967296 ∧
        s.keeps [.now, .link, .tables, .counters, .control, .cadence, .sound, .store, .smoke] t)) ∧
  (∀ (after : Nat) (tag : Byte) (entry : List Byte) (s : State), s.ready → entry.length = 13 →
    (s.mode = .run → s.tables.configOnlyDiffers 2 entry = false) →
    let p := RadioTable.decode entry
    ∃ t, exec (.writeTable after tag 2 0 entry) s = .next t ∧ t.now = s.now + after ∧
      t.answered tag (.writeTable 2 0 entry) (if p.2 then .okClamped else .ok) (2 :: 0 :: p.1.encode) ∧
      t.tables = { s.tables with radio := p.1 } ∧ p.1.inRange ∧ s.keeps [.now, .link, .tables] t) ∧
  (∀ (after : Nat) (tag : Byte) (k : Fin 128) (entry : List Byte) (s : State), s.ready → entry.length = 16 →
    let p := SampleEntry.decode entry
    ∃ t, exec (.writeTable after tag 5 (BitVec.ofNat 8 k.val) entry) s = .next t ∧ t.now = s.now + after ∧
      t.answered tag (.writeTable 5 (BitVec.ofNat 8 k.val) entry) (if p.2 then .okClamped else .ok)
        (5 :: BitVec.ofNat 8 k.val :: p.1.encode) ∧
      t.tables = { s.tables with sample := s.tables.sample.set k p.1 } ∧ p.1.inRange ∧
      s.keeps [.now, .link, .tables] t) ∧
  -- FUNCMAP and BEACON
  (∀ (after : Nat) (tag : Byte) (k : Fin 32) (entry : List Byte) (s : State), s.ready → entry.length = 5 →
    let p := FuncEntry.decode entry
    ∃ t, exec (.writeTable after tag 3 (BitVec.ofNat 8 k.val) entry) s = .next t ∧ t.now = s.now + after ∧
      t.answered tag (.writeTable 3 (BitVec.ofNat 8 k.val) entry) (if p.2 then .okClamped else .ok)
        (3 :: BitVec.ofNat 8 k.val :: p.1.encode s.control.functions[k]) ∧
      t.tables = { s.tables with funcMap := s.tables.funcMap.set k p.1 } ∧ p.1.inRange ∧
      t.control = { s.control with flags := deriveFlags s.control.functions t.tables.funcMap,
                                   effective := t.control.effective } ∧
      t.control.effective = t.control.effectiveThrottle ∧
      (t.control.flags.smoke = s.control.flags.smoke → t.smoke = s.smoke) ∧
      s.keeps [.now, .link, .tables, .control, .smoke] t) ∧
  (∀ (after : Nat) (tag : Byte) (k : Fin 16) (entry : List Byte) (s : State), s.ready → entry.length = 10 →
    let p := BeaconEntry.decode entry
    ∃ t, exec (.writeTable after tag 4 (BitVec.ofNat 8 k.val) entry) s = .next t ∧ t.now = s.now + after ∧
      t.answered tag (.writeTable 4 (BitVec.ofNat 8 k.val) entry) (if p.2 then .okClamped else .ok)
        (4 :: BitVec.ofNat 8 k.val :: p.1.encode true) ∧
      t.tables = { s.tables with beacon := s.tables.beacon.set k p.1 } ∧ p.1.inRange ∧
      t.control = { s.control with beacons := s.control.beacons.set k { armed := true, unheard := none } } ∧
      s.keeps [.now, .link, .tables, .control] t) ∧
  -- CHUFF and AMBIENT
  (∀ (after : Nat) (tag : Byte) (entry : List Byte) (s : State), s.ready → entry.length = 20 →
    (s.mode = .run → s.tables.configOnlyDiffers 7 entry = false) →
    let p := ChuffTable.decode entry
    ∃ t, exec (.writeTable after tag 7 0 entry) s = .next t ∧ t.now = s.now + after ∧
      t.answered tag (.writeTable 7 0 entry) (if p.2 then .okClamped else .ok) (7 :: 0 :: p.1.encode) ∧
      t.tables = { s.tables with chuff := p.1 } ∧ p.1.inRange ∧ s.keeps [.now, .link, .tables] t) ∧
  (∀ (after : Nat) (tag : Byte) (entry : List Byte) (s : State), s.ready → entry.length = 3 →
    let p := AmbientTable.decode entry
    ∃ t, exec (.writeTable after tag 8 0 entry) s = .next t ∧ t.now = s.now + after ∧
      t.answered tag (.writeTable 8 0 entry) (if p.2 then .okClamped else .ok) (8 :: 0 :: p.1.encode) ∧
      t.tables = { s.tables with ambient := p.1 } ∧ p.1.inRange ∧ s.keeps [.now, .link, .tables] t) ∧
  -- LIGHTS, a channel and the strobe
  (∀ (after : Nat) (tag : Byte) (k : Fin 8) (entry : List Byte) (s : State), s.ready → entry.length = 7 →
    let p := LampEntry.decode entry
    let lights := s.tables.lights
    ∃ t, exec (.writeTable after tag 10 (BitVec.ofNat 8 k.val) entry) s = .next t ∧ t.now = s.now + after ∧
      t.answered tag (.writeTable 10 (BitVec.ofNat 8 k.val) entry) (if p.2 then .okClamped else .ok)
        (10 :: BitVec.ofNat 8 k.val :: p.1.encode s.light.lamps[k]) ∧
      t.tables = { s.tables with lights := { lights with channels := lights.channels.set k p.1 } } ∧ p.1.inRange ∧
      t.light = (if p.1.mode = .firebox ∧ lights.channels[k].mode ≠ .firebox
        then { s.light with lamps := s.light.lamps.set k { s.light.lamps[k] with firebox := 0 } } else s.light) ∧
      s.keeps [.now, .link, .tables, .light] t) ∧
  (∀ (after on off : Nat) (tag phase l1 l2 : Byte) (s : State), s.ready → on < 65536 → off < 65536 →
    let entry := toBytes 2 on ++ toBytes 2 off ++ [phase, l1, l2]
    let on' := max 20 (min on 2000)
    let off' := max 20 (min off 2000)
    ∃ t, exec (.writeTable after tag 10 8 entry) s = .next t ∧ t.now = s.now + after ∧
      t.answered tag (.writeTable 10 8 entry) (if on' = on ∧ off' = off then .ok else .okClamped)
        (10 :: 8 :: (toBytes 2 on' ++ toBytes 2 off' ++ toBytes 1 (if s.light.strobeOn then 1 else 0) ++
          toBytes 2 (s.light.strobe.msLeft t.now))) ∧
      t.tables = { s.tables with lights := { s.tables.lights with strobeOn := on', strobeOff := off' } } ∧
      s.keeps [.now, .link, .tables] t)

/-- The bytes of a table entry (R182) stand for it: an entry of its ranges, written as bytes and read back, is itself,
and no field is clamped. Runtime fields are written and not read. -/
def Obligations.TableEntriesRoundTrip : Prop :=
  (∀ n : TractionTable, n.inRange → TractionTable.decode n.encode = (n, false)) ∧
  (∀ n : CadenceTable, n.inRange → CadenceTable.decode n.encode = (n, false)) ∧
  (∀ n : RadioTable, n.inRange → RadioTable.decode n.encode = (n, false)) ∧
  (∀ (n : FuncEntry) (f : FunctionState), n.inRange → FuncEntry.decode (n.encode f) = (n, false)) ∧
  (∀ (n : BeaconEntry) (armed : Bool), n.inRange → BeaconEntry.decode (n.encode armed) = (n, false)) ∧
  (∀ n : SampleEntry, n.inRange → SampleEntry.decode n.encode = (n, false)) ∧
  (∀ n : CueEntry, n.inRange → CueEntry.decode n.encode = (n, false)) ∧
  (∀ n : ChuffTable, n.inRange → ChuffTable.decode n.encode = (n, false)) ∧
  (∀ n : AmbientTable, n.inRange → AmbientTable.decode n.encode = (n, false)) ∧
  (∀ n : SmokeTable, n.inRange → SmokeTable.decode n.encode = (n, false)) ∧
  (∀ (n : LampEntry) (l : Lamp), n.inRange → LampEntry.decode (n.encode l) = (n, false)) ∧
  (∀ n : SupplyTable, n.inRange → SupplyTable.decode n.encode = (n, false)) ∧
  (∀ n : Nat, n ≤ 255 → readFields mixerRules (writeFields mixerRules [n]) = ([n], false)) ∧
  (∀ on off phase left : Nat, 20 ≤ on → on ≤ 2000 → 20 ≤ off → off ≤ 2000 →
    readFields strobeRules (writeFields strobeRules [on, off, phase, left]) = ([on, off, 0, 0], false))

/-- READ_STATUS and READ_COUNTERS on a quiet part (R173, R176, R181): the status record of 39 bytes with the notices-lost
flag as it stood, which is then clear; the counters of a group as they stood, cleared together where the clear flag is set.
The fields of the record follow one by one, each number with the most significant byte first, absent owner, stopped wheel and
no fault cause 0 and an invalid temperature 0x7FFF; the dwell is the ms left, rounded up (assumption 39), the revolutions
left or dwell ms are 0 in NONE and BRAKING (assumption 55), and the codes of the choices are those of assumption 28. Then the
counters of the five groups in their order. -/
def Obligations.StatusAndCountersAreRead : Prop :=
  (∀ (after : Nat) (tag : Byte) (s : State), s.ready →
    ∃ t, exec (.readStatus after tag) s = .next t ∧ t.now = s.now + after ∧
      t.answered tag .readStatus .ok ({ s with now := t.now } : State).statusRecord ∧
      ({ s with now := t.now } : State).statusRecord.length = 39 ∧
      t.link.lost = false ∧ t.link.notices = [] ∧ s.keeps [.now, .link] t) ∧
  (∀ (after : Nat) (tag group clear : Byte) (s : State), s.ready →
    (4 < group.toNat →
      ∃ t, exec (.readCounters after tag group clear) s = .next t ∧ t.now = s.now + after ∧
        t.answered tag (.readCounters group clear) .noEntry [] ∧ s.keeps [.now, .link] t) ∧
    (∀ values, s.counters.group group.toNat = some values →
      ∃ t, exec (.readCounters after tag group clear) s = .next t ∧ t.now = s.now + after ∧
        t.answered tag (.readCounters group clear) .ok (group :: values.flatMap (toBytes 2)) ∧
        (clear = 0#8 → t.counters = s.counters) ∧
        (clear ≠ 0#8 → t.counters.group group.toNat = some (values.map (fun _ => 0)) ∧
          ∀ g, g ≠ group.toNat → t.counters.group g = s.counters.group g) ∧
        s.keeps [.now, .link, .counters] t)) ∧
  -- the status record field by field
  (∀ s : State,
    let field (place bytes value : Nat) :=
      bigEndian ((s.statusRecord.drop place).take bytes) = value % 256 ^ bytes
    let flag (b : Bool) := if b = true then 1 else 0
    let c := s.control
    let m := s.motion
    s.statusRecord.length = 39 ∧
    field 0 1 (match s.mode with | .config => 0 | .run => 1) ∧
    field 1 1 (match s.cause with | .powerOn => 0 | .brownout => 1 | .pin => 2 | .restart => 3) ∧
    field 2 1 (flag s.link.lost) ∧
    field 3 1 (match c.source with | .none => 0 | .radio => 1 | .host => 2) ∧
    field 4 2 (c.owner.getD 0) ∧ field 6 2 c.throttle ∧ field 8 2 c.effective ∧ field 10 1 (flag c.estop) ∧
    (c.stopSeq = .none → field 11 1 0 ∧ field 12 4 0) ∧ (∀ n, c.stopSeq = .counting n → field 11 1 1 ∧ field 12 4 n) ∧
    (c.stopSeq = .braking → field 11 1 2 ∧ field 12 4 0) ∧
    (∀ w, c.stopSeq = .dwell w → field 11 1 3 ∧ field 12 4 ((w.since + w.ticks - s.now + 1999) / 2000)) ∧
    field 16 1 (match m.state with | .idle => 0 | .run => 1 | .reversing => 2 | .estop => 3 | .fault => 4) ∧
    field 17 1 (match m.faultCause with | none => 0 | some .stall => 1 | some .short => 2) ∧
    field 18 1 (match m.direction with | .fwd => 0 | .rev => 1) ∧
    field 19 2 (m.demand / 256) ∧ field 21 2 m.emf ∧ field 23 2 m.drive ∧ field 25 2 m.current ∧
    field 27 1 (match m.band with | .light => 0 | .normal => 1 | .heavy => 2) ∧
    field 28 2 (s.cadence.revInterval.getD 0) ∧ field 30 1 (flag s.cadence.faultFlag) ∧
    field 31 1 ((List.finRange 8).filter (fun i => s.sound.voices[i].state ≠ .free)).length ∧
    field 32 1 s.sound.stack.length ∧ field 33 1 (flag s.sound.pendingScene.isSome) ∧
    field 34 1 (match s.smoke.state with
      | .off => 0 | .warming => 1 | .ready => 2 | .standby => 3 | .shed => 4 | .fault => 5) ∧
    (s.smoke.temperature = none → field 35 2 0x7FFF) ∧
    (∀ d, s.smoke.temperature = some d → (bigEndian ((s.statusRecord.drop 35).take 2) : Int) = d % 65536) ∧
    field 37 1 (match s.supply.state with | .normal => 0 | .rideThrough => 1 | .depleted => 2) ∧
    field 38 1 s.supply.shed) ∧
  (∀ k : Counters,
    k.group 0 = some [k.link.checksum, k.link.framing, k.link.overrun] ∧
    k.group 1 = some [k.radio.truncated, k.radio.short, k.radio.weak, k.radio.lengthMismatch, k.radio.badCheck,
      k.radio.unknownKind, k.radio.badBody, k.radio.notForMe, k.radio.beaconFar, k.radio.duplicate, k.radio.coalesced,
      k.radio.queueOverflow, k.radio.accepted, k.radio.errorFreeRun, k.radio.selectRefused, k.radio.notOwner,
      k.radio.ignoredHost, k.radio.beaconUnknown, k.radio.stopIgnored] ∧
    k.group 2 = some [k.traction.overcurrentSteps, k.traction.shortTrips, k.traction.stalls, k.traction.shorts] ∧
    k.group 3 = some [k.sound.cueDropped, k.sound.noSample, k.sound.sampleBusy, k.sound.sceneDropped,
      k.sound.underrun, k.sound.clip] ∧
    k.group 4 = some [k.supply.rideThroughs, k.supply.depletions] ∧ ∀ g, 4 < g → k.group g = none)

/-- CLEAR_FAULT on a quiet part (R20, R143, R174): NOT_FAULTED where nothing is latched; otherwise the fault is gone, the
current ceiling and stall run start anew, the state follows the estop latch, and FAULT_CLEARED is sent. -/
def Obligations.ClearFaultClearsLatchedFaults : Prop :=
  (∀ (after : Nat) (tag : Byte) (s : State), s.ready → s.motion.state ≠ .fault →
    ∃ t, exec (.clearFaultTraction after tag) s = .next t ∧ t.now = s.now + after ∧
      t.answered tag (.clearFault 0#8) .notFaulted [] ∧ t.link.notices = [] ∧ s.keeps [.now, .link] t) ∧
  (∀ (after : Nat) (tag : Byte) (s : State), s.ready → s.motion.state = .fault →
    ∃ t, exec (.clearFaultTraction after tag) s = .next t ∧ t.now = s.now + after ∧
      t.answered tag (.clearFault 0#8) .ok [] ∧
      t.link.notices.head? = some (t.noticed (.faultCleared .traction)) ∧
      t.motion = { s.motion with state := if s.control.estop then .estop else .idle, faultCause := none,
                                 stallRun := 0, ceiling := 1023 } ∧
      s.keeps [.now, .link, .control, .motion, .bridge, .smoke] t) ∧
  (∀ (after : Nat) (tag : Byte) (s : State), s.ready → s.smoke.latch = none →
    ∃ t, exec (.clearFaultSmoke after tag) s = .next t ∧ t.now = s.now + after ∧
      t.answered tag (.clearFault 1#8) .notFaulted [] ∧ t.link.notices = [] ∧ s.keeps [.now, .link] t) ∧
  (∀ (after : Nat) (tag : Byte) (s : State), s.ready → s.smoke.latch ≠ none →
    ∃ t, exec (.clearFaultSmoke after tag) s = .next t ∧ t.now = s.now + after ∧
      t.answered tag (.clearFault 1#8) .ok [] ∧ t.link.notices = [t.noticed (.faultCleared .smoke)] ∧
      t.smoke.latch = none ∧ t.smoke.temperature = s.smoke.temperature ∧
      (s.mode = .config → t.smoke.state = .off ∧ t.smoke.heater = false) ∧
      s.keeps [.now, .link, .smoke] t)

/-! ## Requests of Operator Control -/

/-- DRIVE on a quiet part (R85, R87, R94). In CONFIG it is refused. A nonzero throttle, clamped to 1023, makes the host
the source and is taken with its direction; while a stop sequence runs the values go to the sequence. A zero throttle ends
a stop sequence with its direction as the request, clears the estop latch, takes ESTOP back to IDLE, and clears a traction
fault of 1,000 ms ago or more (assumptions 40 and 50). The deferred direction is absent after the sequence, whose STOP_SEQUENCE
notice carries the last resume throttle (assumption 51) and no revolutions or ms (assumption 55). A direction code above 1 is
taken as REV (assumption 16). -/
def Obligations.DriveGivesTheHostControl : Prop :=
  ∀ (after : Nat) (tag : Byte) (throttle : BitVec 16) (code : Byte) (s : State), s.ready →
    let v := min 1023 throttle.toNat
    let d := Direction.ofCode code.toNat
    let result := if 1023 < throttle.toNat then Result.okClamped else .ok
    let held := if s.control.source = .host then s.control.held else none
    (s.mode = .config →
      ∃ t, exec (.drive after tag throttle code) s = .next t ∧ t.now = s.now + after ∧
        t.answered tag (.drive throttle code) .wrongMode [] ∧ t.link.notices = [] ∧ s.keeps [.now, .link] t) ∧
    (s.mode = .run → v ≠ 0 → s.control.stopSeq = .none →
      ∃ t, exec (.drive after tag throttle code) s = .next t ∧ t.now = s.now + after ∧
        t.answered tag (.drive throttle code) result [] ∧
        t.link.notices = (if s.control.source = .host then [] else [t.noticed (.source .host .drive)]) ∧
        (s.control.source ≠ .host →
          t.link.hostLease = some { since := t.now, ticks := s.tables.radio.hostLease * 2000 }) ∧
        t.control = { s.control with source := .host, held := held, throttle := v, request := d,
                                     effective := t.control.effective } ∧
        t.control.effective = t.control.effectiveThrottle ∧ s.keeps [.now, .link, .control] t) ∧
    (s.mode = .run → v ≠ 0 → s.control.stopSeq ≠ .none →
      ∃ t, exec (.drive after tag throttle code) s = .next t ∧ t.now = s.now + after ∧
        t.answered tag (.drive throttle code) result [] ∧
        t.control = { s.control with source := .host, held := held, resume := v, deferred := some d,
                                     effective := t.control.effective } ∧
        t.control.effective = t.control.effectiveThrottle ∧ s.keeps [.now, .link, .control] t) ∧
    (s.mode = .run → v = 0 → s.control.stopSeq = .none →
      ∃ t, exec (.drive after tag throttle code) s = .next t ∧ t.now = s.now + after ∧
        t.answered tag (.drive throttle code) .ok [] ∧
        t.control.source = .host ∧ t.control.throttle = 0 ∧ t.control.request = d ∧ t.control.estop = false ∧
        (s.motion.state = .estop → s.control.estop = true → t.motion = { s.motion with state := .idle }) ∧
        (s.motion.state = .fault → 1000 ≤ (t.timestamp + 4294967296 - s.motion.faultTime) % 4294967296 →
          t.motion = { s.motion with state := .idle, faultCause := none, stallRun := 0, ceiling := 1023 }) ∧
        (s.motion.state = .fault → (t.timestamp + 4294967296 - s.motion.faultTime) % 4294967296 < 1000 →
          t.motion = s.motion) ∧
        s.keeps [.now, .link, .control, .motion, .bridge, .smoke] t) ∧
    (s.mode = .run → v = 0 → s.control.stopSeq ≠ .none →
      ∃ t, exec (.drive after tag throttle code) s = .next t ∧ t.now = s.now + after ∧
        t.answered tag (.drive throttle code) .ok [] ∧
        t.noticed (.stopSequence { code := 0, value := 0 } s.control.resume (some .throttleZero)) ∈ t.link.notices ∧
        t.control = { s.control with source := .host, held := held, throttle := 0, request := d, stopSeq := .none,
                                     deferred := none, estop := false, effective := t.control.effective } ∧
        t.control.effective = t.control.effectiveThrottle ∧
        (s.motion.state = .estop → s.control.estop = true → t.motion = { s.motion with state := .idle }) ∧
        (s.motion.state = .fault → 1000 ≤ (t.timestamp + 4294967296 - s.motion.faultTime) % 4294967296 →
          t.motion = { s.motion with state := .idle, faultCause := none, stallRun := 0, ceiling := 1023 }) ∧
        s.keeps [.now, .link, .control, .motion, .bridge, .smoke] t)

/-- RELEASE_DRIVE on a quiet part, and the expiry of the host lease (R84, R85): a host that controls gives way to a
present owner, or to no source, with the loss action, of which STOP clears neither the estop latch nor a traction fault
(assumption 31); otherwise nothing changes. An expiry before its time does nothing
(assumptions 2 and 3). The deferred direction is absent where the loss ends a stop sequence (assumption 51). -/
def Obligations.HostGivesUpControl : Prop :=
  (∀ (after : Nat) (tag : Byte) (s : State), s.ready → s.mode = .config →
    ∃ t, exec (.releaseDrive after tag) s = .next t ∧ t.now = s.now + after ∧
      t.answered tag .releaseDrive .wrongMode [] ∧ s.keeps [.now, .link] t) ∧
  (∀ (after : Nat) (tag : Byte) (s : State), s.ready → s.mode = .run → s.control.source ≠ .host →
    ∃ t, exec (.releaseDrive after tag) s = .next t ∧ t.now = s.now + after ∧
      t.answered tag .releaseDrive .ok [] ∧ t.link.notices = [] ∧ s.keeps [.now, .link] t) ∧
  (∀ (after : Nat) (tag : Byte) (o : Nat) (s : State), s.ready → s.mode = .run → s.control.source = .host →
    s.control.owner = some o →
    ∃ t, exec (.releaseDrive after tag) s = .next t ∧ t.now = s.now + after ∧
      t.answered tag .releaseDrive .ok [] ∧ t.link.notices = [t.noticed (.source .radio .releaseDrive)] ∧
      t.link.hostLease = none ∧
      t.control = { s.control with source := .radio, effective := t.control.effective } ∧
      t.control.effective = t.control.effectiveThrottle ∧ s.keeps [.now, .link, .control] t) ∧
  (∀ (after : Nat) (tag : Byte) (s : State), s.ready → s.mode = .run → s.control.source = .host →
    s.control.owner = none →
    ∃ t, exec (.releaseDrive after tag) s = .next t ∧ t.now = s.now + after ∧
      t.answered tag .releaseDrive .ok [] ∧ t.link.notices.head? = some (t.noticed (.source .none .releaseDrive)) ∧
      t.link.hostLease = none ∧
      t.control = { s.control.afterLoss s.tables.radio.lossAction with effective := t.control.effective } ∧
      t.control.effective = t.control.effectiveThrottle ∧
      t.motion = (if s.tables.radio.lossAction = .estop then s.motion.afterEstop else s.motion) ∧
      s.keeps [.now, .link, .control, .motion, .bridge, .smoke] t) ∧
  (∀ (after : Nat) (timer : Timer) (s : State), s.rested → s.link.hostLease = some timer →
    s.now + after < timer.since + timer.ticks →
    ∃ t, exec (.hostLeaseExpiry after) s = .next t ∧ t.now = s.now + after ∧ s.keeps [.now] t) ∧
  (∀ (after : Nat) (timer : Timer) (s : State), s.rested → s.link.hostLease = some timer →
    timer.since + timer.ticks ≤ s.now + after → s.control.source = .host → s.control.owner = none →
    ∃ t, exec (.hostLeaseExpiry after) s = .next t ∧ t.now = s.now + after ∧ t.link.hostLease = none ∧
      (s.linkQuiet → t.link.onLine = some (.notice (t.noticed (.source .none .hostLease)))) ∧
      t.control = { s.control.afterLoss s.tables.radio.lossAction with effective := t.control.effective } ∧
      t.control.effective = t.control.effectiveThrottle ∧
      t.motion = (if s.tables.radio.lossAction = .estop then s.motion.afterEstop else s.motion) ∧
      s.keeps [.now, .link, .control, .motion, .bridge, .smoke] t) ∧
  (∀ (after o : Nat) (timer : Timer) (s : State), s.rested → s.link.hostLease = some timer →
    timer.since + timer.ticks ≤ s.now + after → s.control.source = .host → s.control.owner = some o →
    ∃ t, exec (.hostLeaseExpiry after) s = .next t ∧ t.now = s.now + after ∧ t.link.hostLease = none ∧
      (s.linkQuiet → t.link.onLine = some (.notice (t.noticed (.source .radio .hostLease)))) ∧
      t.control = { s.control with source := .radio, effective := t.control.effective } ∧
      t.control.effective = t.control.effectiveThrottle ∧ s.keeps [.now, .link, .control] t)

/-- STOP on a quiet part (R17, R86): in RUN the estop latch is set, the throttle is 0, a stop sequence ends, the motor
is braked at once unless it is in ESTOP or FAULT already, and an ESTOP notice is the last of the queue. The deferred
direction is absent after the sequence (assumption 51). -/
def Obligations.StopRequestStopsAtOnce : Prop :=
  (∀ (after : Nat) (tag : Byte) (s : State), s.ready → s.mode = .config →
    ∃ t, exec (.stop after tag) s = .next t ∧ t.now = s.now + after ∧
      t.answered tag .stop .wrongMode [] ∧ t.link.notices = [] ∧ s.keeps [.now, .link] t) ∧
  (∀ (after : Nat) (tag : Byte) (s : State), s.ready → s.mode = .run →
    ∃ t, exec (.stop after tag) s = .next t ∧ t.now = s.now + after ∧
      t.answered tag .stop .ok [] ∧ t.link.notices.getLast? = some (t.noticed (.estop .host)) ∧
      t.control = { s.control.freed with estop := true, throttle := 0, held := none, effective := 0 } ∧
      t.motion = s.motion.afterEstop ∧
      (s.motion.state.regulating = true → t.bridge.active = 0 ∧ t.bridge.pendingLevel = 0 ∧
        t.bridge.state = (if s.bridge.state = .off ∨ s.bridge.state = .gap then s.bridge.state else .brake)) ∧
      (s.motion.state.regulating = false → t.bridge = s.bridge) ∧
      s.keeps [.now, .link, .control, .motion, .bridge, .smoke] t)

/-- SET_FUNCTION on a quiet part (R88, R89): refused in CONFIG and above F31; otherwise that one function takes the state
(any nonzero byte is on, assumption 36) with last writer HOST, the derived flags follow the table, and where neither a change
nor a cue calls the Sound Engine, only Operator Control and the Smoke Unit can change. A function turned on hands the start
of its cue to the Sound Engine, with no CUE_DONE to come; one turned off releases the general voices that hold its cue with
class LOOP; one that is free at once has the record of a FREE voice (assumption 47). Each derived flag is yes when some
function that is on carries it in the FUNCMAP table. -/
def Obligations.SetFunctionWritesOneFunction : Prop :=
  -- the derived flags (R89)
  (∀ (functions : Vector FunctionState 32) (map : Vector FuncEntry 32),
    let flags := deriveFlags functions map
    (flags.smoke = true ↔ ∃ f : Fin 32, functions[f].on = true ∧ map[f].smoke = true) ∧
    (flags.shunting = true ↔ ∃ f : Fin 32, functions[f].on = true ∧ map[f].shunting = true) ∧
    (flags.brake = true ↔ ∃ f : Fin 32, functions[f].on = true ∧ map[f].brake = true) ∧
    (flags.mute = true ↔ ∃ f : Fin 32, functions[f].on = true ∧ map[f].mute = true) ∧
    (flags.dim = true ↔ ∃ f : Fin 32, functions[f].on = true ∧ map[f].dim = true)) ∧
  ∀ (after : Nat) (tag function state : Byte) (s : State), s.ready →
    (s.mode = .config →
      ∃ t, exec (.setFunction after tag function state) s = .next t ∧ t.now = s.now + after ∧
        t.answered tag (.setFunction function state) .wrongMode [] ∧ s.keeps [.now, .link] t) ∧
    (s.mode = .run → 31 < function.toNat →
      ∃ t, exec (.setFunction after tag function state) s = .next t ∧ t.now = s.now + after ∧
        t.answered tag (.setFunction function state) .noEntry [] ∧ s.keeps [.now, .link] t) ∧
    (s.mode = .run → ∀ f : Fin 32, f.val = function.toNat →
      ∃ t, exec (.setFunction after tag function state) s = .next t ∧ t.now = s.now + after ∧
        t.answered tag (.setFunction function state) .ok [] ∧
        t.control.functions = s.control.functions.set f { on := state != 0#8, writer := .host } ∧
        t.control.flags = deriveFlags t.control.functions s.tables.funcMap ∧
        t.control = { s.control with functions := t.control.functions, flags := t.control.flags,
                                     effective := t.control.effective } ∧
        t.control.effective = t.control.effectiveThrottle ∧
        s.keeps [.now, .link, .counters, .control, .sound, .store, .smoke] t ∧
        ((s.control.functions[f].on = (state != 0#8) ∨ s.tables.funcMap[f].cue = none) →
          s.keeps [.now, .link, .control, .smoke] t)) ∧
  -- the hand-overs of a change (R89), by the rules of R101 to R105
  (∀ (after : Nat) (tag function state : Byte) (f : Fin 32) (q : Nat) (s : State), s.ready → s.mode = .run →
    f.val = function.toNat → s.control.functions[f].on ≠ (state != 0#8) → s.tables.funcMap[f].cue = some q →
    let c := s.tables.cueAt q
    let e := s.tables.sampleAt c.slot
    let n := s.sound
    let held (i : Fin 8) : Bool := n.general i && n.voices[i].holds q && (n.voices[i].cls == .loop)
    ∃ t, exec (.setFunction after tag function state) s = .next t ∧
      (state ≠ 0#8 → s.supply.state = .depleted → t.sound = n ∧
        t.counters.sound = { s.counters.sound with cueDropped := min 65535 (s.counters.sound.cueDropped + 1) }) ∧
      (state ≠ 0#8 → s.supply.state ≠ .depleted → e.length = 0 → t.sound = n ∧
        t.counters.sound = { s.counters.sound with noSample := min 65535 (s.counters.sound.noSample + 1) }) ∧
      (state ≠ 0#8 → s.supply.state ≠ .depleted → e.length ≠ 0 → s.store.blocks e = true → t.sound = n ∧
        t.counters.sound = { s.counters.sound with sampleBusy := min 65535 (s.counters.sound.sampleBusy + 1) }) ∧
      (state ≠ 0#8 → s.supply.state ≠ .depleted → e.length ≠ 0 → s.store.blocks e = false → c.cls ≠ .scene →
        (c.restart = .layer ∨ ∀ i : Fin 8, n.general i = true → n.voices[i].holds q = false) →
        ∀ i : Fin 8, n.general i = true → n.voices[i].state = .free →
          (∀ j : Fin 8, j < i → n.general j = true → n.voices[j].state ≠ .free) →
          t.sound.voices[i].justStarted q c e false s.motion ∧
          (∀ j : Fin 8, j ≠ i → t.sound.voices[j] = n.voices[j]) ∧ t.sound.order = n.order.erase i ++ [i] ∧
          t.counters = s.counters) ∧
      (state = 0#8 →
        (∀ i : Fin 8, held i = false → t.sound.voices[i] = n.voices[i]) ∧
        (∀ i : Fin 8, held i = true → n.voices[i].release ≠ 0 → n.voices[i].waiting = false →
          t.sound.voices[i] = { n.voices[i] with state := .releasing, multiplier := 256 }) ∧
        (∀ i : Fin 8, held i = true → (n.voices[i].release = 0 ∨ n.voices[i].waiting = true) →
          t.sound.voices[i] = {}) ∧
        t.counters = s.counters))

/-! ## Requests of the Sound Engine and the Sample Store Port -/

/-- PLAY_CUE on a quiet part (R101 to R103, R107, R113), in either mode: its refusals with their counters; a start on
the lowest FREE general voice; the theft of the oldest general voice of the lowest priority below the cue's; a start
dropped; the IGNORE and RESTART policies; a scene on a FREE voice 0, and one against a voice 0 that plays: judged by the
policies where it holds the same scene, else its content is saved on the resume stack, and with the stack full the scene
waits in the pending slot or is dropped; a scene cuts a voice 0 in RELEASING. Every other voice plays on. That the reply
RESTARTED carries the index of the restarted voice is the model's choice (assumption 54). A sample is busy while an erase or
write in flight overlaps it (R101, R128). -/
def Obligations.PlayCueTakesAVoice : Prop :=
  -- test 3 of R101: an erase or write in flight overlaps the sample
  (∀ (p : Store) (e : SampleEntry), p.blocks e = true ↔ ∃ op, p.op = some op ∧ op.kind ≠ .read ∧
    op.address < e.start + e.length ∧ e.start < op.address + op.count) ∧
  ∀ (after : Nat) (tag cue : Byte) (s : State), s.ready →
    let c := s.tables.cueAt cue.toNat
    let e := s.tables.sampleAt c.slot
    let n := s.sound
    let passes := cue.toNat ≤ 63 ∧ s.supply.state ≠ .depleted ∧ e.length ≠ 0 ∧ s.store.blocks e = false
    let unheld := ∀ i : Fin 8, n.general i = true → n.voices[i].holds cue.toNat = false
    (63 < cue.toNat →
      ∃ t, exec (.playCue after tag cue) s = .next t ∧ t.now = s.now + after ∧
        t.answered tag (.playCue cue) .noEntry [] ∧ s.keeps [.now, .link] t) ∧
    (cue.toNat ≤ 63 → s.supply.state = .depleted →
      ∃ t, exec (.playCue after tag cue) s = .next t ∧ t.now = s.now + after ∧
        t.answered tag (.playCue cue) .ok [3, 255] ∧
        t.counters.sound.cueDropped = min 65535 (s.counters.sound.cueDropped + 1) ∧
        s.keeps [.now, .link, .counters] t) ∧
    (cue.toNat ≤ 63 → s.supply.state ≠ .depleted → e.length = 0 →
      ∃ t, exec (.playCue after tag cue) s = .next t ∧ t.now = s.now + after ∧
        t.answered tag (.playCue cue) .noSample [] ∧
        t.counters.sound.noSample = min 65535 (s.counters.sound.noSample + 1) ∧
        s.keeps [.now, .link, .counters] t) ∧
    (cue.toNat ≤ 63 → s.supply.state ≠ .depleted → e.length ≠ 0 → s.store.blocks e = true →
      ∃ t, exec (.playCue after tag cue) s = .next t ∧ t.now = s.now + after ∧
        t.answered tag (.playCue cue) .sampleBusy [] ∧
        t.counters.sound.sampleBusy = min 65535 (s.counters.sound.sampleBusy + 1) ∧
        s.keeps [.now, .link, .counters] t) ∧
    (passes → c.cls ≠ .scene → (c.restart = .layer ∨ unheld) →
      ∀ i : Fin 8, n.general i = true → n.voices[i].state = .free →
        (∀ j : Fin 8, j < i → n.general j = true → n.voices[j].state ≠ .free) →
        ∃ t, exec (.playCue after tag cue) s = .next t ∧ t.now = s.now + after ∧
          t.answered tag (.playCue cue) .ok [0, BitVec.ofNat 8 i.val] ∧ t.link.notices = [] ∧
          t.sound.voices[i].justStarted cue.toNat c e true s.motion ∧
          (∀ j : Fin 8, j ≠ i → t.sound.voices[j] = n.voices[j]) ∧ t.sound.order = n.order.erase i ++ [i] ∧
          s.keeps [.now, .link, .sound, .store] t) ∧
    (passes → c.cls ≠ .scene → (c.restart = .layer ∨ unheld) →
      (∀ j : Fin 8, n.general j = true → n.voices[j].state ≠ .free) →
      ∀ (older younger : List (Fin 8)) (i : Fin 8), n.order = older ++ i :: younger → n.general i = true →
        n.voices[i].priority < c.priority →
        (∀ j ∈ older, n.general j = true → n.voices[i].priority < n.voices[j].priority) →
        (∀ j ∈ younger, n.general j = true → n.voices[i].priority ≤ n.voices[j].priority) →
        ∃ t, exec (.playCue after tag cue) s = .next t ∧ t.now = s.now + after ∧
          t.answered tag (.playCue cue) .ok [0, BitVec.ofNat 8 i.val] ∧
          t.sound.voices[i].justStarted cue.toNat c e true s.motion ∧
          (∀ m, n.voices[i].host = true → n.voices[i].content = some (.cue m) →
            t.link.notices = [t.noticed (.cueDone m i.val .stolen)]) ∧
          (∀ j : Fin 8, j ≠ i → t.sound.voices[j] = n.voices[j]) ∧ t.sound.order = n.order.erase i ++ [i] ∧
          s.keeps [.now, .link, .sound, .store] t) ∧
    (passes → c.cls ≠ .scene → (c.restart = .layer ∨ unheld) →
      (∀ j : Fin 8, n.general j = true → n.voices[j].state ≠ .free) →
      (∀ j : Fin 8, n.general j = true → c.priority ≤ n.voices[j].priority) →
      ∃ t, exec (.playCue after tag cue) s = .next t ∧ t.now = s.now + after ∧
        t.answered tag (.playCue cue) .ok [3, 255] ∧
        t.counters.sound.cueDropped = min 65535 (s.counters.sound.cueDropped + 1) ∧
        s.keeps [.now, .link, .counters] t) ∧
    (passes → c.cls ≠ .scene → c.restart = .ignore →
      (∃ i ∈ n.order, n.general i = true ∧ n.voices[i].holds cue.toNat = true) →
      ∃ t, exec (.playCue after tag cue) s = .next t ∧ t.now = s.now + after ∧
        t.answered tag (.playCue cue) .ok [2, 255] ∧
        t.counters.sound.cueDropped = min 65535 (s.counters.sound.cueDropped + 1) ∧
        s.keeps [.now, .link, .counters] t) ∧
    (passes → c.cls ≠ .scene → c.restart = .restart →
      ∀ (older younger : List (Fin 8)) (i : Fin 8), n.order = older ++ i :: younger → n.general i = true →
        n.voices[i].holds cue.toNat = true →
        (∀ j ∈ younger, n.general j = true → n.voices[j].holds cue.toNat = false) →
        ∃ t, exec (.playCue after tag cue) s = .next t ∧ t.now = s.now + after ∧
          t.answered tag (.playCue cue) .ok [1, BitVec.ofNat 8 i.val] ∧ t.link.notices = [] ∧
          t.sound.voices[i].justStarted cue.toNat c e true s.motion ∧
          (∀ j : Fin 8, j ≠ i → t.sound.voices[j] = n.voices[j]) ∧ t.sound.order = n.order.erase i ++ [i] ∧
          s.keeps [.now, .link, .sound, .store] t) ∧
    (passes → c.cls = .scene → n.voices[(0 : Fin 8)].state = .free →
      ∃ t, exec (.playCue after tag cue) s = .next t ∧ t.now = s.now + after ∧
        t.answered tag (.playCue cue) .ok [0, 0] ∧ t.link.notices = [] ∧
        t.sound.voices[(0 : Fin 8)].justStarted cue.toNat c e true s.motion ∧ t.sound.stack = n.stack ∧
        (∀ j : Fin 8, j ≠ 0 → t.sound.voices[j] = n.voices[j]) ∧ s.keeps [.now, .link, .sound, .store] t) ∧
    -- a scene against a voice 0 that is not FREE (R113)
    (passes → c.cls = .scene →
      let z := n.voices[(0 : Fin 8)]
      let same := z.isScene = true ∧ z.holds cue.toNat = true
      let scene (outcome voice : Byte) (t : State) := exec (.playCue after tag cue) s = .next t ∧
        t.now = s.now + after ∧ t.answered tag (.playCue cue) .ok [outcome, voice]
      let taken (t : State) := t.sound.voices[(0 : Fin 8)].justStarted cue.toNat c e true s.motion ∧
        (∀ j : Fin 8, j ≠ 0 → t.sound.voices[j] = n.voices[j]) ∧ s.keeps [.now, .link, .sound, .store] t
      (z.state = .playing → same → c.restart = .ignore →
        ∃ t, scene 2 255 t ∧ t.counters.sound.cueDropped = min 65535 (s.counters.sound.cueDropped + 1) ∧
          s.keeps [.now, .link, .counters] t) ∧
      (z.state = .playing → same → c.restart = .restart →
        ∃ t, scene 1 0 t ∧ taken t ∧ t.sound.stack = n.stack ∧ t.link.notices = []) ∧
      (z.state = .playing → (¬same ∨ c.restart = .layer) → n.stack.length < 4 →
        ∃ t, scene 0 0 t ∧ taken t ∧ t.sound.stack = z :: n.stack ∧ t.link.notices = []) ∧
      (z.state = .playing → (¬same ∨ c.restart = .layer) → 4 ≤ n.stack.length → n.pendingScene = none →
        ∃ t, scene 4 255 t ∧ t.sound = { n with pendingScene := some { cue := cue.toNat, host := true } } ∧
          s.keeps [.now, .link, .sound] t) ∧
      (z.state = .playing → (¬same ∨ c.restart = .layer) → 4 ≤ n.stack.length → n.pendingScene ≠ none →
        ∃ t, scene 5 255 t ∧ t.counters.sound.sceneDropped = min 65535 (s.counters.sound.sceneDropped + 1) ∧
          s.keeps [.now, .link, .counters] t) ∧
      (z.state = .releasing →
        ∃ t, scene 0 0 t ∧ taken t ∧ t.sound.stack = n.stack ∧
          (∀ m, z.isScene = true → z.host = true → z.content = some (.cue m) →
            t.link.notices = [t.noticed (.cueDone m 0 .cut)])))

/-- HALT_CUE on a quiet part (R105, R106), in either mode: answered with the count of the voices it acts on, the general
voices that hold the cue and voice 0 holding it as a scene; each fades from a full multiplier, or is FREE at once where its
release is 0 or nothing has sounded yet, with the record of a FREE voice (assumption 47) and, for a cue of origin HOST, a
CUE_DONE with cause RELEASED (assumption 59), in rising order of the voices (assumption 14); every other voice plays on. A
scene so freed with no scene pending gives voice 0 to the scene on top of the stack, if its sample is not busy, or with an
empty stack to an ambient update (R114). -/
def Obligations.HaltCueReleasesHolders : Prop :=
  (∀ (after : Nat) (tag cue : Byte) (s : State), s.ready → 63 < cue.toNat →
    ∃ t, exec (.haltCue after tag cue) s = .next t ∧ t.now = s.now + after ∧
      t.answered tag (.haltCue cue) .noEntry [] ∧ s.keeps [.now, .link] t) ∧
  (∀ (after : Nat) (tag cue : Byte) (s : State), s.ready → cue.toNat ≤ 63 →
    let held (i : Fin 8) : Bool := s.sound.voices[i].holds cue.toNat &&
      (s.sound.general i || (i == 0 && s.sound.voices[i].isScene))
    ∃ t, exec (.haltCue after tag cue) s = .next t ∧ t.now = s.now + after ∧
      t.answered tag (.haltCue cue) .ok [BitVec.ofNat 8 ((List.finRange 8).countP held)] ∧
      (∀ i : Fin 8, held i = false → t.sound.voices[i] = s.sound.voices[i]) ∧
      (∀ i : Fin 8, held i = true → s.sound.voices[i].release ≠ 0 → s.sound.voices[i].waiting = false →
        t.sound.voices[i] = { s.sound.voices[i] with state := .releasing, multiplier := 256 }) ∧
      (∀ i : Fin 8, held i = true → i ≠ 0 → (s.sound.voices[i].release = 0 ∨ s.sound.voices[i].waiting = true) →
        t.sound.voices[i] = {}) ∧
      -- the voices freed at once, a scene on voice 0 among them
      (let freed (i : Fin 8) : Bool := held i && (s.sound.voices[i].release == 0 || s.sound.voices[i].waiting)
       let w := t.sound.voices[(0 : Fin 8)]
       ((freed 0 = true → s.sound.pendingScene = none ∧ s.sound.stack = []) →
         t.link.notices = ((List.finRange 8).filter (fun i => freed i && s.sound.voices[i].host)).map
           (fun i => t.noticed (.cueDone cue.toNat i.val .released))) ∧
       (freed 0 = false → t.sound.stack = s.sound.stack ∧ t.sound.pendingScene = s.sound.pendingScene) ∧
       (freed 0 = true → s.sound.pendingScene = none → t.sound.pendingScene = none ∧
         (s.sound.stack = [] → t.sound.stack = [] ∧ (s.mode = .config → w = {}) ∧
           (s.mode = .run → s.updatesAmbient s.supply.state s.sound.ambient s.motion {} w)) ∧
         (∀ saved rest, s.sound.stack = saved :: rest → (∀ m a, saved.content ≠ some (.ambient m a)) →
           s.store.blocks saved.sample = false → t.sound.stack = rest ∧ w = { saved with
             state := .playing, multiplier := 256, waiting := true,
             applied := gainOf saved.gain saved.gainMode s.motion.demandCode s.motion.band }))) ∧
      s.keeps [.now, .link, .counters, .sound, .store] t)

/-- STORE_ERASE, STORE_WRITE and STORE_READ on a quiet part (R128 to R130): their refusals in order, which change
nothing, and their acceptance, answered at once for an erase or write and at its completion for a read. An idle port
takes the operation at once, a port reading a line takes it after (R127). The flash changes only at the end. -/
def Obligations.StoreRequestsAreJudged : Prop :=
  (∀ (after : Nat) (tag : Byte) (sector : BitVec 16) (s : State), s.ready →
    let address := sector.toNat * 4096
    let refused (r : Result) := ∃ t, exec (.storeErase after tag sector) s = .next t ∧ t.now = s.now + after ∧
      t.answered tag (.storeErase sector) r [] ∧ s.keeps [.now, .link] t
    (4095 < sector.toNat → refused .noEntry) ∧
    (sector.toNat ≤ 4095 → (s.store.op ≠ none ∨ s.store.port = .waiting) → refused .storeBusy) ∧
    (sector.toNat ≤ 4095 → s.store.op = none → s.store.port ≠ .waiting → s.sound.playsIn address 4096 = true →
      refused .sampleBusy) ∧
    (sector.toNat ≤ 4095 → s.store.op = none → s.store.port ≠ .waiting → s.sound.playsIn address 4096 = false →
      ∃ t, exec (.storeErase after tag sector) s = .next t ∧ t.now = s.now + after ∧
        t.answered tag (.storeErase sector) .ok (toBytes 3 address) ∧
        t.store.op = some { kind := .erase, address := address, count := 4096, data := [],
                            begun := if s.store.port = .idle then some t.now else none, clamped := false } ∧
        t.store.port = (if s.store.port = .idle then .store else s.store.port) ∧
        t.store.buffers = s.store.buffers ∧ s.keeps [.now, .link, .store] t)) ∧
  (∀ (after : Nat) (tag : Byte) (address : BitVec 24) (data : List Byte) (s : State), s.ready →
    let a := address.toNat
    let fits := 1 ≤ data.length ∧ data.length ≤ 128 ∧ a % 256 + data.length ≤ 256
    let refused (r : Result) := ∃ t, exec (.storeWrite after tag address data) s = .next t ∧ t.now = s.now + after ∧
      t.answered tag (.storeWrite address data) r [] ∧ s.keeps [.now, .link] t
    (¬fits → refused .badLength) ∧
    (fits → (s.store.op ≠ none ∨ s.store.port = .waiting) → refused .storeBusy) ∧
    (fits → s.store.op = none → s.store.port ≠ .waiting → s.sound.playsIn a data.length = true →
      refused .sampleBusy) ∧
    (fits → s.store.op = none → s.store.port ≠ .waiting → s.sound.playsIn a data.length = false →
      ∃ t, exec (.storeWrite after tag address data) s = .next t ∧ t.now = s.now + after ∧
        t.answered tag (.storeWrite address data) .ok (toBytes 3 a) ∧
        t.store.op = some { kind := .write, address := a, count := data.length, data := data,
                            begun := if s.store.port = .idle then some t.now else none, clamped := false } ∧
        t.store.port = (if s.store.port = .idle then .store else s.store.port) ∧
        t.store.buffers = s.store.buffers ∧ s.keeps [.now, .link, .store] t)) ∧
  (∀ (after : Nat) (tag : Byte) (address : BitVec 24) (count : Byte) (s : State), s.ready →
    let a := address.toNat
    let n := min (max 1 (min count.toNat 128)) (16777216 - a)
    ((s.store.op ≠ none ∨ s.store.port = .waiting) →
      ∃ t, exec (.storeRead after tag address count) s = .next t ∧ t.now = s.now + after ∧
        t.answered tag (.storeRead address count) .storeBusy [] ∧ s.keeps [.now, .link] t) ∧
    (s.store.op = none → s.store.port ≠ .waiting →
      ∃ t, exec (.storeRead after tag address count) s = .next t ∧ t.now = s.now + after ∧
        t.link.onLine = none ∧ t.link.slot = none ∧
        t.link.inService = some { tag := tag, request := .storeRead address count, stage := .working } ∧
        t.store.op = some { kind := .read, address := a, count := n, data := [],
                            begun := if s.store.port = .idle then some t.now else none,
                            clamped := n != count.toNat } ∧
        t.store.port = (if s.store.port = .idle then .store else s.store.port) ∧
        t.store.buffers = s.store.buffers ∧ s.keeps [.now, .link, .store] t))

/-! ## The radio line -/

/-- The burst assembler (R58, R60, R73): a length byte of at most 17 begins a burst, a longer one or a missing stop bit
makes the line be discarded, a whole burst that began in RUN is checked and a failed check is counted; the gap timer
restarts at each byte and its expiry ends a burst as TRUNCATED, an expiry before its time doing nothing (assumptions 2 and
3). A packet the address filter refuses is NOT_FOR_ME, a kept BEACON heard below the beacon floor BEACON_FAR, and a kept
ESTOP stops the part at once, past the duplicate table and the queue (R63 to R65). Nothing is counted in CONFIG, nor for a
burst that began there (assumption 11). A gap expiry with the timer stopped does nothing. A destination is classed as OWN
before CONSIST before BROADCAST (R63), and each failed check adds one to its own counter and ends the error-free run
(R60). The absent deferred direction after an ESTOP that ends a stop sequence is assumption 51. -/
def Obligations.RadioAssemblerTakesBytes : Prop :=
  (∀ (after : Nat) (byte : Byte) (stopBit : Bool) (s : State), s.rested →
    let gap : Option Timer := some { since := s.now + after, ticks := 2000 }
    let cut : Counters := if s.mode = .run then
      { s.counters with radio := { s.counters.radio with truncated := min 65535 (s.counters.radio.truncated + 1),
                                                         errorFreeRun := 0 } } else s.counters
    (s.radio.assembler = .discarding →
      ∃ t, exec (.radioByte after byte stopBit) s = .next t ∧ t.now = s.now + after ∧
        t.radio = { s.radio with gap := gap } ∧ s.keeps [.now, .radio] t) ∧
    (s.radio.assembler = .quiet → stopBit = true → byte.toNat ≤ 17 →
      ∃ t, exec (.radioByte after byte stopBit) s = .next t ∧ t.now = s.now + after ∧
        t.radio = { s.radio with gap := gap, assembler := .collecting (s.mode == .run) [byte] } ∧
        s.keeps [.now, .radio] t) ∧
    (s.radio.assembler = .quiet → (stopBit = false ∨ 17 < byte.toNat) →
      ∃ t, exec (.radioByte after byte stopBit) s = .next t ∧ t.now = s.now + after ∧
        t.radio = { s.radio with gap := gap, assembler := .discarding } ∧ t.counters = cut ∧
        s.keeps [.now, .radio, .counters] t) ∧
    (∀ inRun bytes, s.radio.assembler = .collecting inRun bytes →
      let all := bytes ++ [byte]
      let whole := (all.headD 0).toNat + 2 ≤ all.length
      (stopBit = false →
        ∃ t, exec (.radioByte after byte stopBit) s = .next t ∧ t.now = s.now + after ∧
          t.radio = { s.radio with gap := gap, assembler := .discarding } ∧
          t.counters = (if inRun then cut else s.counters) ∧ s.keeps [.now, .radio, .counters] t) ∧
      (stopBit = true → ¬whole →
        ∃ t, exec (.radioByte after byte stopBit) s = .next t ∧ t.now = s.now + after ∧
          t.radio = { s.radio with gap := gap, assembler := .collecting inRun all } ∧ s.keeps [.now, .radio] t) ∧
      (stopBit = true → whole → (inRun = false ∨ s.mode = .config) →
        ∃ t, exec (.radioByte after byte stopBit) s = .next t ∧ t.now = s.now + after ∧
          t.radio = { s.radio with gap := gap, assembler := .quiet } ∧ s.keeps [.now, .radio] t) ∧
      (∀ f, stopBit = true → whole → inRun = true → s.mode = .run →
        checkBurst s.tables.radio.rssiFloor all = .error f →
        ∃ t, exec (.radioByte after byte stopBit) s = .next t ∧ t.now = s.now + after ∧
          t.radio = { s.radio with gap := gap, assembler := .quiet } ∧
          t.counters = { s.counters with radio := s.counters.radio.fail f } ∧
          s.keeps [.now, .radio, .counters] t) ∧
      (∀ p, stopBit = true → whole → inRun = true → s.mode = .run →
        checkBurst s.tables.radio.rssiFloor all = .ok p → s.tables.radio.classOf p.destination = none →
        ∃ t, exec (.radioByte after byte stopBit) s = .next t ∧ t.now = s.now + after ∧
          t.radio = { s.radio with gap := gap, assembler := .quiet } ∧
          t.counters.radio = { s.counters.radio with
            errorFreeRun := min 65535 (s.counters.radio.errorFreeRun + 1),
            notForMe := min 65535 (s.counters.radio.notForMe + 1) } ∧
          s.keeps [.now, .radio, .counters] t) ∧
      (∀ p cls, stopBit = true → whole → inRun = true → s.mode = .run →
        checkBurst s.tables.radio.rssiFloor all = .ok p → s.tables.radio.classOf p.destination = some cls →
        let mine := if cls = .broadcast then p.kind = .estop ∨ p.kind = .beacon else p.kind ≠ .beacon
        let quiet : Radio := { s.radio with gap := gap, assembler := .quiet }
        let checked := { s.counters.radio with errorFreeRun := min 65535 (s.counters.radio.errorFreeRun + 1) }
        (¬mine →
          ∃ t, exec (.radioByte after byte stopBit) s = .next t ∧ t.now = s.now + after ∧ t.radio = quiet ∧
            t.counters.radio = { checked with notForMe := min 65535 (s.counters.radio.notForMe + 1) } ∧
            s.keeps [.now, .radio, .counters] t) ∧
        (mine → p.kind = .beacon → p.rssi < s.tables.radio.beaconRssi →
          ∃ t, exec (.radioByte after byte stopBit) s = .next t ∧ t.now = s.now + after ∧ t.radio = quiet ∧
            t.counters.radio = { checked with beaconFar := min 65535 (s.counters.radio.beaconFar + 1) } ∧
            s.keeps [.now, .radio, .counters] t) ∧
        (mine → p.kind = .estop →
          ∃ t, exec (.radioByte after byte stopBit) s = .next t ∧ t.now = s.now + after ∧ t.radio = quiet ∧
            t.counters.radio = { checked with accepted := min 65535 (s.counters.radio.accepted + 1) } ∧
            t.control = { s.control.freed with estop := true, throttle := 0, held := none, effective := 0 } ∧
            t.motion = s.motion.afterEstop ∧
            (s.linkQuiet → s.control.stopSeq = .none →
              t.link.onLine = some (.notice (t.noticed (.estop (.radio p.source))))) ∧
            s.keeps [.now, .radio, .counters, .link, .control, .motion, .bridge, .smoke] t)))) ∧
  (∀ (after : Nat) (timer : Timer) (s : State), s.rested → s.radio.gap = some timer →
    (s.now + after < timer.since + timer.ticks →
      ∃ t, exec (.radioGapExpiry after) s = .next t ∧ t.now = s.now + after ∧ s.keeps [.now] t) ∧
    (timer.since + timer.ticks ≤ s.now + after →
      ∃ t, exec (.radioGapExpiry after) s = .next t ∧ t.now = s.now + after ∧
        t.radio = { s.radio with gap := none, assembler := .quiet } ∧
        t.counters = (match s.radio.assembler with
          | .collecting true _ => if s.mode = .run then
              { s.counters with radio := { s.counters.radio with
                  truncated := min 65535 (s.counters.radio.truncated + 1), errorFreeRun := 0 } }
            else s.counters
          | _ => s.counters) ∧
        s.keeps [.now, .radio, .counters] t)) ∧
  (∀ (after : Nat) (s : State), s.rested → s.radio.gap = none →
    ∃ t, exec (.radioGapExpiry after) s = .next t ∧ t.now = s.now + after ∧ s.keeps [.now] t) ∧
  -- the class of a destination
  (∀ (r : RadioTable) (destination : Nat),
    (destination = r.own → r.classOf destination = some .own) ∧
    (destination ≠ r.own → r.consist ≠ 0 → destination = r.consist → r.classOf destination = some .consist) ∧
    (destination ≠ r.own → (r.consist = 0 ∨ destination ≠ r.consist) → destination = 0 →
      r.classOf destination = some .broadcast) ∧
    (destination ≠ r.own → (r.consist = 0 ∨ destination ≠ r.consist) → destination ≠ 0 →
      r.classOf destination = none)) ∧
  -- the counter of each failed check
  (∀ k : RadioCounters,
    k.fail .short = { k with short := min 65535 (k.short + 1), errorFreeRun := 0 } ∧
    k.fail .weak = { k with weak := min 65535 (k.weak + 1), errorFreeRun := 0 } ∧
    k.fail .lengthMismatch = { k with lengthMismatch := min 65535 (k.lengthMismatch + 1), errorFreeRun := 0 } ∧
    k.fail .badCheck = { k with badCheck := min 65535 (k.badCheck + 1), errorFreeRun := 0 } ∧
    k.fail .unknownKind = { k with unknownKind := min 65535 (k.unknownKind + 1), errorFreeRun := 0 } ∧
    k.fail .badBody = { k with badBody := min 65535 (k.badBody + 1), errorFreeRun := 0 })

/-- The seven checks read a burst as it was laid out (R60, R61, R183): a burst built from a kind, addresses, a sequence
and a body the kind allows, with an RSSI at the floor or above, is read back as that packet; the check is the CRC-16 of
R62, fed byte by byte from 0xFFFF, and any other two check bytes are BAD_CHECK. A whole burst fails the first check of SHORT,
WEAK, LENGTH_MISMATCH, BAD_CHECK, UNKNOWN_KIND and BAD_BODY that it does not meet, and one that meets all is read by the
layout of its kind. -/
def Obligations.BurstRoundTrip : Prop :=
  (∀ (kind : PacketKind) (source destination sequence floor : Nat) (body : List Byte) (b : PacketBody) (rssi : Byte),
    source < 65536 → destination < 65536 → sequence < 256 → floor ≤ rssi.toNat → decodeBody kind body = some b →
    checkBurst floor (burstBytes kind.code source destination sequence body rssi) =
      .ok { kind := kind, source := source, destination := destination, sequence := sequence, body := b,
            rssi := rssi.toNat }) ∧
  (∀ (head : List Byte) (high low rssi : Byte) (floor : Nat), 7 ≤ head.length → head.length ≤ 15 →
    (head.getD 6 0).toNat = head.length - 7 → floor ≤ rssi.toNat →
    high ++ low ≠ crc16 head →
    checkBurst floor (BitVec.ofNat 8 (head.length + 2) :: (head ++ [high, low, rssi])) = .error .badCheck) ∧
  (∀ (length rssi : Byte) (packet : List Byte) (floor : Nat), packet.length = length.toNat →
    let n := length.toNat
    let verdict := checkBurst floor (length :: (packet ++ [rssi]))
    let byteAt (i : Nat) : Nat := (packet.getD i 0).toNat
    let right := (crc16 (packet.take (n - 2))).toNat = byteAt (n - 2) * 256 + byteAt (n - 1)
    let kinds : List PacketKind := [.throttle, .functions, .estop, .select, .release, .beacon]
    let fits := (byteAt 0 = 1 ∧ n = 12) ∨ (byteAt 0 = 2 ∧ n = 11 ∧ byteAt 7 ≤ 3) ∨ (3 ≤ byteAt 0 ∧ n = 9)
    (n < 9 → verdict = .error .short) ∧
    (9 ≤ n → rssi.toNat < floor → verdict = .error .weak) ∧
    (9 ≤ n → floor ≤ rssi.toNat → byteAt 6 ≠ n - 9 → verdict = .error .lengthMismatch) ∧
    (9 ≤ n → floor ≤ rssi.toNat → byteAt 6 = n - 9 → ¬right → verdict = .error .badCheck) ∧
    (9 ≤ n → floor ≤ rssi.toNat → byteAt 6 = n - 9 → right → (byteAt 0 = 0 ∨ 6 < byteAt 0) →
      verdict = .error .unknownKind) ∧
    (9 ≤ n → floor ≤ rssi.toNat → byteAt 6 = n - 9 → right → 1 ≤ byteAt 0 → byteAt 0 ≤ 6 → ¬fits →
      verdict = .error .badBody) ∧
    (9 ≤ n → floor ≤ rssi.toNat → byteAt 6 = n - 9 → right → 1 ≤ byteAt 0 → byteAt 0 ≤ 6 → fits →
      verdict = .ok { kind := kinds.getD (byteAt 0 - 1) .throttle, source := byteAt 1 * 256 + byteAt 2,
                      destination := byteAt 3 * 256 + byteAt 4, sequence := byteAt 5,
                      body := if byteAt 0 = 1 then .throttle (min 1023 (byteAt 7 * 256 + byteAt 8)) (if byteAt 9 = 0 then .fwd else .rev)
                        else if byteAt 0 = 2 then .functions (byteAt 7) (packet.getD 8 0) else .empty,
                      rssi := rssi.toNat })) ∧
  (crc16 [] = 0xFFFF#16 ∧ ∀ (bytes : List Byte) (b : Byte),
    let feed (r : BitVec 16) : BitVec 16 := if r.msb = true then (r <<< 1) ^^^ 0x1021#16 else r <<< 1
    let fourBits (r : BitVec 16) : BitVec 16 := feed (feed (feed (feed r)))
    crc16 (bytes ++ [b]) = fourBits (fourBits (crc16 bytes ^^^ (b.setWidth 16 <<< 8))))

/-- The duplicate table (R66, R67): a repeat, a new sequence, a new source in the lowest free slot, a new source over the
slot heard longest ago; the table never comes to hold two entries of one source; an entry is freed when its source has been
unheard for 2,000 ms, both times in whole ms (assumption 44), an expiry before that doing nothing (assumptions 2 and 3); and
a repeat that RADIO_BYTE brings in is counted and goes no further. A BEACON of class OWN or CONSIST is NOT_FOR_ME and leaves
the table alone, even where its source and sequence are those of an entry (R63). -/
def Obligations.DuplicateTableJudgesRepeats : Prop :=
  (∀ (r : Radio) (source sequence ms : Nat) (k : Fin 8) (e : DuplicateEntry), r.duplicates[k] = some e →
    e.source = source → (∀ j : Fin 8, j < k → ∀ d, r.duplicates[j] = some d → d.source ≠ source) →
    r.judge source sequence ms =
      ({ r with duplicates := r.duplicates.set k (some { source := source, sequence := sequence, heard := ms }) },
       e.sequence == sequence)) ∧
  (∀ (r : Radio) (source sequence ms : Nat) (k : Fin 8),
    (∀ (j : Fin 8) (d : DuplicateEntry), r.duplicates[j] = some d → d.source ≠ source) →
    (r.duplicates[k] = none → (∀ j : Fin 8, j < k → r.duplicates[j] ≠ none) →
      r.judge source sequence ms =
        ({ r with duplicates := r.duplicates.set k (some { source := source, sequence := sequence, heard := ms }) },
         false)) ∧
    ((∀ j : Fin 8, r.duplicates[j] ≠ none) → (∀ j : Fin 8, j < k → r.heardAt k < r.heardAt j) →
      (∀ j : Fin 8, r.heardAt k ≤ r.heardAt j) →
      r.judge source sequence ms =
        ({ r with duplicates := r.duplicates.set k (some { source := source, sequence := sequence, heard := ms }) },
         false))) ∧
  (∀ (r : Radio) (source sequence ms : Nat),
    (∀ (i j : Fin 8) (d e : DuplicateEntry), r.duplicates[i] = some d → r.duplicates[j] = some e →
      d.source = e.source → i = j) →
    ∀ (i j : Fin 8) (d e : DuplicateEntry), (r.judge source sequence ms).1.duplicates[i] = some d →
      (r.judge source sequence ms).1.duplicates[j] = some e → d.source = e.source → i = j) ∧
  -- DUPLICATE_ENTRY_FREED: a free slot, an entry before its time, an entry unheard for 2,000 ms
  (∀ (after : Nat) (k : Fin 8) (s : State), s.rested → s.radio.duplicates[k] = none →
    ∃ t, exec (.duplicateEntryFreed after k) s = .next t ∧ t.now = s.now + after ∧ s.keeps [.now] t) ∧
  (∀ (after : Nat) (k : Fin 8) (e : DuplicateEntry) (s : State), s.rested → s.radio.duplicates[k] = some e →
    ((s.now + after) / 2000 < e.heard + 2000 →
      ∃ t, exec (.duplicateEntryFreed after k) s = .next t ∧ t.now = s.now + after ∧ s.keeps [.now] t) ∧
    (e.heard + 2000 ≤ (s.now + after) / 2000 →
      ∃ t, exec (.duplicateEntryFreed after k) s = .next t ∧ t.now = s.now + after ∧
        t.radio = { s.radio with duplicates := s.radio.duplicates.set k none } ∧ s.keeps [.now, .radio] t)) ∧
  -- the last byte of a burst that repeats the packet last heard of its source
  (∀ (after : Nat) (byte : Byte) (bytes : List Byte) (p : AirPacket) (cls : PacketClass) (packet : Packet) (k : Fin 8)
      (e : DuplicateEntry) (s : State), s.rested → s.mode = .run → s.radio.assembler = .collecting true bytes →
    ((bytes ++ [byte]).headD 0).toNat + 2 ≤ (bytes ++ [byte]).length →
    checkBurst s.tables.radio.rssiFloor (bytes ++ [byte]) = .ok p → s.tables.radio.classOf p.destination = some cls →
    cls ≠ .broadcast → p.queued = some packet → packet ≠ .beacon → s.radio.duplicates[k] = some e →
    e.source = p.source → e.sequence = p.sequence →
    (∀ j : Fin 8, j < k → ∀ d, s.radio.duplicates[j] = some d → d.source ≠ p.source) →
    ∃ t, exec (.radioByte after byte true) s = .next t ∧ t.now = s.now + after ∧
      t.radio = { s.radio with
        gap := some { since := t.now, ticks := 2000 }, assembler := .quiet,
        duplicates := s.radio.duplicates.set k
          (some { source := p.source, sequence := p.sequence, heard := t.now / 2000 }) } ∧
      t.counters.radio = { s.counters.radio with
        errorFreeRun := min 65535 (s.counters.radio.errorFreeRun + 1),
        duplicate := min 65535 (s.counters.radio.duplicate + 1) } ∧
      s.keeps [.now, .radio, .counters] t) ∧
  -- a BEACON that is not of class BROADCAST stops at the address filter, whatever its source's entry holds
  (∀ (after : Nat) (byte : Byte) (bytes : List Byte) (p : AirPacket) (cls : PacketClass) (k : Fin 8)
      (e : DuplicateEntry) (s : State), s.rested → s.mode = .run → s.radio.assembler = .collecting true bytes →
    ((bytes ++ [byte]).headD 0).toNat + 2 ≤ (bytes ++ [byte]).length →
    checkBurst s.tables.radio.rssiFloor (bytes ++ [byte]) = .ok p → s.tables.radio.classOf p.destination = some cls →
    cls ≠ .broadcast → p.kind = .beacon → s.radio.duplicates[k] = some e → e.source = p.source →
    e.sequence = p.sequence →
    ∃ t, exec (.radioByte after byte true) s = .next t ∧ t.now = s.now + after ∧
      t.radio = { s.radio with gap := some { since := t.now, ticks := 2000 }, assembler := .quiet } ∧
      t.radio.duplicates = s.radio.duplicates ∧
      t.counters.radio = { s.counters.radio with
        errorFreeRun := min 65535 (s.counters.radio.errorFreeRun + 1),
        notForMe := min 65535 (s.counters.radio.notForMe + 1) } ∧
      s.keeps [.now, .radio, .counters] t)

/-- The inbound queue (R68 to R70): a newer THROTTLE over the older of its source in place, another packet at the tail,
a packet dropped from the full queue with one notice for each episode, and the taking at once by an idle Operator
Control. The last byte of a burst that the checks, the filter and the duplicate table let pass brings its packet to the
queue so; a BEACON goes there past the duplicate table. The interpretation lasts 250 µs and 2 ms for each hand-over that
R78 counts for the entry: none for a THROTTLE, SELECT or RELEASE, and for FUNCTIONS and BEACON the cue starts and releases
that the tables, functions, armed flags and direction give, whoever owns the part (assumption 37). -/
def Obligations.InboundQueueTakesPackets : Prop :=
  (∀ (e : QueueEntry) (s : State),
    let joins := e.throttleOf e.source && s.radio.queue.any (fun q => q.throttleOf e.source)
    (joins = true →
      (s.enqueue e).radio.queue = s.radio.queue.map (fun q => if q.throttleOf e.source then e else q) ∧
      (s.enqueue e).counters.radio = { s.counters.radio with
        coalesced := min 65535 (s.counters.radio.coalesced + 1),
        accepted := min 65535 (s.counters.radio.accepted + 1) } ∧
      s.keeps [.radio, .counters] (s.enqueue e)) ∧
    (joins = false → s.radio.queue.length < 8 → s.control.interp ≠ none →
      (s.enqueue e).radio = { s.radio with queue := s.radio.queue ++ [e] } ∧
      (s.enqueue e).counters.radio.accepted = min 65535 (s.counters.radio.accepted + 1) ∧
      s.keeps [.radio, .counters] (s.enqueue e)) ∧
    (joins = false → s.radio.queue = [] → s.control.interp = none →
      (s.enqueue e).radio = { s.radio with queue := [], episode := false } ∧
      (s.enqueue e).control = { s.control with
        interp := some { entry := e, timer := { since := s.now, ticks := 500 + 4000 * s.handOvers e } } } ∧
      s.keeps [.radio, .counters, .control] (s.enqueue e)) ∧
    (joins = false → 8 ≤ s.radio.queue.length →
      (s.enqueue e).radio = { s.radio with episode := true } ∧
      (s.enqueue e).counters.radio = { s.counters.radio with
        queueOverflow := min 65535 (s.counters.radio.queueOverflow + 1) } ∧
      (s.radio.episode = true → s.keeps [.radio, .counters] (s.enqueue e)) ∧
      (s.radio.episode = false → s.link.notices.length < 16 →
        (s.enqueue e).link.notices = s.link.notices ++ [s.noticed (.queueOverflow e.packet.kind.code e.source
          (min 65535 (s.counters.radio.queueOverflow + 1)))]) ∧
      s.keeps [.radio, .counters, .link] (s.enqueue e))) ∧
  (∀ (after : Nat) (byte : Byte) (bytes : List Byte) (p : AirPacket) (cls : PacketClass) (packet : Packet)
      (s : State), s.rested → s.mode = .run → s.radio.assembler = .collecting true bytes →
    ((bytes ++ [byte]).headD 0).toNat + 2 ≤ (bytes ++ [byte]).length →
    checkBurst s.tables.radio.rssiFloor (bytes ++ [byte]) = .ok p → s.tables.radio.classOf p.destination = some cls →
    p.queued = some packet →
    let e : QueueEntry := { packet := packet, source := p.source, cls := cls, sequence := p.sequence }
    let judged := s.radio.judge p.source p.sequence ((s.now + after) / 2000)
    let arrival (r : Radio) : State := { s with
      now := s.now + after,
      radio := { r with gap := some { since := s.now + after, ticks := 2000 }, assembler := .quiet },
      counters := { s.counters with radio := { s.counters.radio with
        errorFreeRun := min 65535 (s.counters.radio.errorFreeRun + 1) } } }
    let queues (r : Radio) := ∃ t, exec (.radioByte after byte true) s = .next t ∧
      t.link = ((arrival r).enqueue e).link.startLine ∧ ((arrival r).enqueue e).keeps [.link] t
    (cls ≠ .broadcast → packet ≠ .beacon → judged.2 = false → queues judged.1) ∧
    (cls = .broadcast → packet = .beacon → s.tables.radio.beaconRssi ≤ p.rssi → queues s.radio)) ∧
  (∀ (e : QueueEntry) (s : State), s.handsOver e (s.handOvers e))

/-! ## Operator Control -/

/-- INTERPRETATION_COMPLETE of a THROTTLE, with the queue empty (R78, R81, R82, R87): the owner's speed and direction
are taken while the source is RADIO, inverted for a consist-reversed locomotive in a consist; counted while the source is
HOST; a zero speed ends a stop sequence, the deferred direction then absent (assumption 51), clears the estop latch and a
traction fault of 1,000 ms ago or more (assumptions 40 and 50); a stranger is
counted NOT_OWNER while another owns the part, and selected first while nobody does and auto_select is on. An interpretation
not yet run, or none, does nothing (assumptions 2 and 3). -/
def Obligations.InterpretationOfThrottle : Prop :=
  (∀ (after : Nat) (s : State), s.rested → s.control.interp = none →
    ∃ t, exec (.interpretationComplete after) s = .next t ∧ t.now = s.now + after ∧ s.keeps [.now] t) ∧
  (∀ (after : Nat) (i : Interpretation) (s : State), s.rested → s.control.interp = some i →
    s.now + after < i.timer.since + i.timer.ticks →
    ∃ t, exec (.interpretationComplete after) s = .next t ∧ t.now = s.now + after ∧ s.keeps [.now] t) ∧
  (∀ (after speed : Nat) (direction : Direction) (i : Interpretation) (s : State), s.rested →
    s.control.interp = some i → i.timer.since + i.timer.ticks ≤ s.now + after →
    i.entry.packet = .throttle speed direction → s.radio.queue = [] →
    let lease (t : State) : Option Timer := some { since := t.now, ticks := s.tables.radio.leaseTime * 2000 }
    let d := if i.entry.cls = .consist ∧ s.tables.radio.reversed = true then direction.inverse else direction
    (s.control.owner = some i.entry.source → s.control.source = .radio → s.control.stopSeq = .none → speed ≠ 0 →
      ∃ t, exec (.interpretationComplete after) s = .next t ∧ t.now = s.now + after ∧
        t.control = { s.control with throttle := speed, request := d, lease := lease t, interp := none,
                                     flags := t.control.flags, effective := t.control.effective } ∧
        t.control.flags = deriveFlags s.control.functions s.tables.funcMap ∧
        t.control.effective = t.control.effectiveThrottle ∧ s.keeps [.now, .link, .control, .smoke] t) ∧
    (s.control.owner = some i.entry.source → s.control.source = .radio → s.control.stopSeq ≠ .none → speed ≠ 0 →
      ∃ t, exec (.interpretationComplete after) s = .next t ∧ t.now = s.now + after ∧
        t.control.throttle = s.control.throttle ∧ t.control.request = s.control.request ∧
        t.control.resume = speed ∧ t.control.deferred = some d ∧ t.control.stopSeq = s.control.stopSeq ∧
        s.keeps [.now, .link, .control, .smoke] t) ∧
    (s.control.owner = some i.entry.source → s.control.source = .radio → speed = 0 →
      ∃ t, exec (.interpretationComplete after) s = .next t ∧ t.now = s.now + after ∧
        t.control = { s.control with throttle := 0, request := d, lease := lease t, interp := none, estop := false,
                                     stopSeq := .none, flags := t.control.flags,
                                     effective := t.control.effective,
                                     deferred := if s.control.stopSeq = .none then s.control.deferred else none } ∧
        t.control.effective = t.control.effectiveThrottle ∧
        (s.motion.state = .estop → s.control.estop = true → t.motion = { s.motion with state := .idle }) ∧
        (s.motion.state = .fault → 1000 ≤ (t.timestamp + 4294967296 - s.motion.faultTime) % 4294967296 →
          t.motion = { s.motion with state := .idle, faultCause := none, stallRun := 0, ceiling := 1023 }) ∧
        (s.motion.state = .fault → (t.timestamp + 4294967296 - s.motion.faultTime) % 4294967296 < 1000 →
          t.motion = s.motion) ∧
        s.keeps [.now, .link, .control, .motion, .bridge, .smoke] t) ∧
    (s.control.owner = some i.entry.source → s.control.source = .host →
      ∃ t, exec (.interpretationComplete after) s = .next t ∧ t.now = s.now + after ∧
        t.control.throttle = s.control.throttle ∧ t.control.request = s.control.request ∧
        t.control.lease = lease t ∧
        t.counters.radio.ignoredHost = min 65535 (s.counters.radio.ignoredHost + 1) ∧
        s.keeps [.now, .link, .counters, .control, .smoke] t) ∧
    (∀ o, s.control.owner = some o → o ≠ i.entry.source →
      ∃ t, exec (.interpretationComplete after) s = .next t ∧ t.now = s.now + after ∧
        t.counters.radio.notOwner = min 65535 (s.counters.radio.notOwner + 1) ∧
        t.control = { s.control with interp := none, flags := t.control.flags, effective := t.control.effective } ∧
        s.keeps [.now, .link, .counters, .control, .smoke] t) ∧
    (s.control.owner = none → (s.tables.radio.autoSelect = false ∨ i.entry.source = 0) →
      ∃ t, exec (.interpretationComplete after) s = .next t ∧ t.now = s.now + after ∧
        t.counters.radio.notOwner = min 65535 (s.counters.radio.notOwner + 1) ∧
        t.control = { s.control with interp := none, flags := t.control.flags, effective := t.control.effective } ∧
        s.keeps [.now, .link, .counters, .control, .smoke] t) ∧
    (s.control.owner = none → s.tables.radio.autoSelect = true → i.entry.source ≠ 0 → s.control.source = .none →
      s.control.stopSeq = .none → speed ≠ 0 →
      ∃ t, exec (.interpretationComplete after) s = .next t ∧ t.now = s.now + after ∧
        t.control = { s.control with owner := some i.entry.source, source := .radio, held := none,
                                     throttle := speed, request := d, lease := lease t, interp := none,
                                     flags := t.control.flags, effective := t.control.effective } ∧
        t.control.effective = t.control.effectiveThrottle ∧ s.keeps [.now, .link, .control, .smoke] t))

/-- INTERPRETATION_COMPLETE of the other packets, with the queue empty (R79, R80, R84, R88, R91 to R93): SELECT, RELEASE,
FUNCTIONS, with no owner from source id 0 as well (assumption 45), a BEACON nobody knows, and a BEACON that one entry names:
heard alone where the entry is not armed or its qualifier refuses the direction (FWD and REV admit their own direction, ANY
both), and otherwise its action, which is a CAP, CLEAR_CAP, STOP, FUNCTION_ON, FUNCTION_OFF or CUE, with the BEACON notice,
which goes behind the STOP_SEQUENCE notice of a STOP (assumption 14). A SELECT of the owner renews the lease and sends
nothing, SELECT and RELEASE leave a source HOST as it is, loss action STOP clears neither the estop latch nor a traction fault
(assumption 31), and a stranger's FUNCTIONS is NOT_OWNER. A BEACON that several
entries name runs the actions of those that act in index order, each on what the one before left, with one BEACON notice of
their records (behind every other notice, assumption 14). The absent deferred direction after a lost source that ends a stop
sequence is assumption 51. -/
def Obligations.InterpretationOfOtherPackets : Prop :=
  (∀ d : Direction, Qualifier.any.admits d = true ∧ (Qualifier.fwd.admits d = true ↔ d = .fwd) ∧
    (Qualifier.rev.admits d = true ↔ d = .rev)) ∧
  (∀ (after : Nat) (i : Interpretation) (s : State), s.rested → s.control.interp = some i →
    i.timer.since + i.timer.ticks ≤ s.now + after → s.radio.queue = [] →
    let h := i.entry.source
    (i.entry.packet = .select → h ≠ 0 → s.control.owner = none → s.control.source = .none →
      ∃ t, exec (.interpretationComplete after) s = .next t ∧ t.now = s.now + after ∧
        t.control = { s.control with owner := some h, source := .radio, held := none, interp := none,
                                     lease := some { since := t.now, ticks := s.tables.radio.leaseTime * 2000 },
                                     flags := t.control.flags, effective := t.control.effective } ∧
        s.keeps [.now, .link, .control, .smoke] t) ∧
    (i.entry.packet = .select → (h = 0 ∨ ∃ o, s.control.owner = some o ∧ o ≠ h) →
      ∃ t, exec (.interpretationComplete after) s = .next t ∧ t.now = s.now + after ∧
        t.counters.radio.selectRefused = min 65535 (s.counters.radio.selectRefused + 1) ∧
        t.control = { s.control with interp := none, flags := t.control.flags, effective := t.control.effective } ∧
        s.keeps [.now, .link, .counters, .control, .smoke] t) ∧
    (i.entry.packet = .release → s.control.owner = some h → s.control.source = .radio →
      ∃ t, exec (.interpretationComplete after) s = .next t ∧ t.now = s.now + after ∧
        t.control = { ({ s.control with owner := none, lease := none } : Control).afterLoss s.tables.radio.lossAction
                      with interp := none, flags := t.control.flags, effective := t.control.effective } ∧
        t.motion = (if s.tables.radio.lossAction = .estop then s.motion.afterEstop else s.motion) ∧
        s.keeps [.now, .link, .control, .motion, .bridge, .smoke] t) ∧
    (i.entry.packet = .release → s.control.owner ≠ some h →
      ∃ t, exec (.interpretationComplete after) s = .next t ∧ t.now = s.now + after ∧
        t.counters.radio.notOwner = min 65535 (s.counters.radio.notOwner + 1) ∧
        t.control = { s.control with interp := none, flags := t.control.flags, effective := t.control.effective } ∧
        s.keeps [.now, .link, .counters, .control, .smoke] t) ∧
    (∀ group states, i.entry.packet = .functions group states →
      (s.control.owner = none ∨ s.control.owner = some h) →
      ∃ t, exec (.interpretationComplete after) s = .next t ∧ t.now = s.now + after ∧
        (∀ f : Fin 32, f.val / 8 = group →
          t.control.functions[f] = { on := states.getLsbD (f.val % 8), writer := .radio }) ∧
        (∀ f : Fin 32, f.val / 8 ≠ group → t.control.functions[f] = s.control.functions[f]) ∧
        t.control.flags = deriveFlags t.control.functions s.tables.funcMap ∧ t.control.lease = s.control.lease ∧
        s.keeps [.now, .link, .counters, .control, .sound, .store, .smoke] t) ∧
    (i.entry.packet = .select → h ≠ 0 → s.control.owner = none → s.control.source ≠ .none →
      ∃ t, exec (.interpretationComplete after) s = .next t ∧ t.now = s.now + after ∧
        t.control = { s.control with owner := some h, interp := none,
                                     lease := some { since := t.now, ticks := s.tables.radio.leaseTime * 2000 },
                                     flags := t.control.flags, effective := t.control.effective } ∧
        (s.linkQuiet → t.link.onLine = some (.notice (t.noticed (.owner (some h) .select)))) ∧
        t.link.hostLease = s.link.hostLease ∧ s.keeps [.now, .link, .control, .smoke] t) ∧
    (i.entry.packet = .select → h ≠ 0 → s.control.owner = some h →
      ∃ t, exec (.interpretationComplete after) s = .next t ∧ t.now = s.now + after ∧
        t.control = { s.control with source := if s.control.source = .none then .radio else s.control.source,
                                     held := if s.control.source = .none then none else s.control.held,
                                     interp := none,
                                     lease := some { since := t.now, ticks := s.tables.radio.leaseTime * 2000 },
                                     flags := t.control.flags, effective := t.control.effective } ∧
        (s.control.source ≠ .none → t.control.flags = s.control.flags → t.link = s.link) ∧
        (s.control.source = .none → s.linkQuiet →
          t.link.onLine = some (.notice (t.noticed (.source .radio .select)))) ∧
        s.keeps [.now, .link, .control, .smoke] t) ∧
    (i.entry.packet = .release → s.control.owner = some h → s.control.source ≠ .radio →
      ∃ t, exec (.interpretationComplete after) s = .next t ∧ t.now = s.now + after ∧
        t.control = { s.control with owner := none, lease := none, interp := none, flags := t.control.flags,
                                     effective := t.control.effective } ∧
        (s.linkQuiet → t.link.onLine = some (.notice (t.noticed (.owner none .release)))) ∧
        t.link.hostLease = s.link.hostLease ∧ s.keeps [.now, .link, .control, .smoke] t) ∧
    (∀ group states o, i.entry.packet = .functions group states → s.control.owner = some o → o ≠ h →
      ∃ t, exec (.interpretationComplete after) s = .next t ∧ t.now = s.now + after ∧
        t.counters.radio = { s.counters.radio with notOwner := min 65535 (s.counters.radio.notOwner + 1) } ∧
        t.control = { s.control with interp := none, flags := t.control.flags, effective := t.control.effective } ∧
        s.keeps [.now, .link, .counters, .control, .smoke] t) ∧
    (i.entry.packet = .beacon → (∀ k : Fin 16, s.tables.beacon[k].id ≠ h ∨ h = 0) →
      ∃ t, exec (.interpretationComplete after) s = .next t ∧ t.now = s.now + after ∧
        t.counters.radio.beaconUnknown = min 65535 (s.counters.radio.beaconUnknown + 1) ∧
        t.control = { s.control with interp := none, flags := t.control.flags, effective := t.control.effective } ∧
        s.keeps [.now, .link, .counters, .control, .smoke] t) ∧
    (i.entry.packet = .beacon → h ≠ 0 → ∀ k : Fin 16, s.tables.beacon[k].id = h →
      (∀ j : Fin 16, j ≠ k → s.tables.beacon[j].id ≠ h) → s.tables.beacon[k].action = .cap →
      s.control.beacons[k].armed = true → s.tables.beacon[k].qualifier.admits s.motion.direction = true →
      ∃ t, exec (.interpretationComplete after) s = .next t ∧ t.now = s.now + after ∧
        t.control.caps = (placeCap s.control.caps { beacon := h, cap := s.tables.beacon[k].parameter }).1 ∧
        t.control.beacons = s.control.beacons.set k { armed := false, unheard := some t.now } ∧
        t.control.effective = t.control.effectiveThrottle ∧ s.keeps [.now, .link, .control, .smoke] t)) ∧
  -- a BEACON that entry k alone names
  (∀ (after : Nat) (i : Interpretation) (k : Fin 16) (s : State), s.rested → s.control.interp = some i →
    i.timer.since + i.timer.ticks ≤ s.now + after → s.radio.queue = [] → i.entry.packet = .beacon →
    let h := i.entry.source
    let b := s.tables.beacon[k]
    h ≠ 0 → b.id = h → (∀ j : Fin 16, j ≠ k → s.tables.beacon[j].id ≠ h) →
    let acts := s.control.beacons[k].armed = true ∧ b.qualifier.admits s.motion.direction = true
    let heard (t : State) : Control := { s.control with
      interp := none, beacons := s.control.beacons.set k { armed := false, unheard := some t.now },
      flags := t.control.flags, effective := t.control.effective }
    let records (t : State) (done : Bool) : Notice := .beacon h [{ index := k.val, action := b.action, done := done }]
    let f : Fin 32 := Fin.ofNat 32 b.parameter
    let writes (on : Bool) := ∃ t, exec (.interpretationComplete after) s = .next t ∧ t.now = s.now + after ∧
      t.control = { heard t with functions := s.control.functions.set f { on := on, writer := .beacon } } ∧
      t.control.flags = deriveFlags t.control.functions s.tables.funcMap ∧
      (s.tables.funcMap[f].cue = none → s.linkQuiet → t.link.onLine = some (.notice (t.noticed (records t true)))) ∧
      (s.tables.funcMap[f].cue = none → s.keeps [.now, .link, .control, .smoke] t) ∧
      s.keeps [.now, .link, .counters, .control, .sound, .store, .smoke] t
    (¬acts →
      ∃ t, exec (.interpretationComplete after) s = .next t ∧ t.now = s.now + after ∧
        t.control = { heard t with
          beacons := s.control.beacons.set k { armed := s.control.beacons[k].armed, unheard := some t.now } } ∧
        s.keeps [.now, .link, .control, .smoke] t) ∧
    (acts → b.action = .clearCap →
      ∃ t, exec (.interpretationComplete after) s = .next t ∧ t.now = s.now + after ∧
        t.control = { heard t with caps := s.control.caps.filter (fun y => y.beacon != b.parameter) } ∧
        (s.linkQuiet → t.link.onLine = some (.notice (t.noticed (records t true)))) ∧
        s.keeps [.now, .link, .control, .smoke] t) ∧
    (acts → b.action = .stop → (s.control.stopSeq ≠ .none ∨ s.motion.demandCode = 0) →
      ∃ t, exec (.interpretationComplete after) s = .next t ∧ t.now = s.now + after ∧ t.control = heard t ∧
        t.counters.radio = { s.counters.radio with stopIgnored := min 65535 (s.counters.radio.stopIgnored + 1) } ∧
        (s.linkQuiet → t.link.onLine = some (.notice (t.noticed (records t false)))) ∧
        s.keeps [.now, .link, .counters, .control, .smoke] t) ∧
    (acts → b.action = .stop → s.control.stopSeq = .none → 0 < s.motion.demandCode →
      ∃ t, exec (.interpretationComplete after) s = .next t ∧ t.now = s.now + after ∧
        t.control = { heard t with resume := s.control.throttle, dwellMs := b.parameter * 1000, deferred := none,
                                   stopSeq := if b.delay ≠ 0 then .counting b.delay
                                     else if s.motion.state = .idle
                                       then .dwell { since := t.now, ticks := b.parameter * 1000 * 2000 }
                                       else .braking } ∧
        t.control.effective = t.control.effectiveThrottle ∧
        (s.linkQuiet → b.delay ≠ 0 → t.link.onLine = some (.notice (t.noticed
            (.stopSequence { code := 1, value := b.delay } s.control.throttle none))) ∧
          t.noticed (records t true) ∈ t.link.notices) ∧
        s.keeps [.now, .link, .control, .smoke] t) ∧
    (acts → b.action = .functionOn → writes true) ∧ (acts → b.action = .functionOff → writes false) ∧
    (acts → b.action = .cue →
      let c := s.tables.cueAt b.parameter
      let e := s.tables.sampleAt c.slot
      let n := s.sound
      s.supply.state ≠ .depleted → s.store.blocks e = false → c.cls ≠ .scene → c.restart = .layer →
      (e.length = 0 →
        ∃ t, exec (.interpretationComplete after) s = .next t ∧ t.now = s.now + after ∧ t.control = heard t ∧
          t.counters.sound = { s.counters.sound with noSample := min 65535 (s.counters.sound.noSample + 1) } ∧
          s.keeps [.now, .link, .counters, .control, .smoke] t) ∧
      (e.length ≠ 0 → ∀ j : Fin 8, n.general j = true → n.voices[j].state = .free →
        (∀ l : Fin 8, l < j → n.general l = true → n.voices[l].state ≠ .free) →
        ∃ t, exec (.interpretationComplete after) s = .next t ∧ t.now = s.now + after ∧ t.control = heard t ∧
          t.sound.voices[j].justStarted b.parameter c e false s.motion ∧
          (∀ l : Fin 8, l ≠ j → t.sound.voices[l] = n.voices[l]) ∧
          s.keeps [.now, .link, .control, .sound, .store, .smoke] t))) ∧
  -- a BEACON that one or more entries name, taken in index order
  (∀ (after : Nat) (i : Interpretation) (s : State), s.rested → s.control.interp = some i →
    i.timer.since + i.timer.ticks ≤ s.now + after → s.radio.queue = [] → i.entry.packet = .beacon →
    let h := i.entry.source
    h ≠ 0 → (∃ k : Fin 16, s.tables.beacon[k].id = h) →
    let acting : List (Fin 16) := (List.finRange 16).filter (fun k => decide (s.beaconActs h k))
    let stops : List (Fin 16) := acting.filter (fun k => s.tables.beacon[k].action == .stop)
    let starts (k : Fin 16) : Bool :=
      decide (s.control.stopSeq = .none ∧ 0 < s.motion.demandCode ∧ stops.head? = some k)
    -- the zone caps list as entries of a list leave it, and the record of one entry
    let capsAfter (l : List (Fin 16)) : List ZoneCap := l.foldl (fun caps k =>
      let b := s.tables.beacon[k]
      match b.action with
      | .cap => (placeCap caps { beacon := h, cap := b.parameter }).1
      | .clearCap => caps.filter (fun y => y.beacon != b.parameter)
      | _ => caps) s.control.caps
    let record (k : Fin 16) : BeaconRecord :=
      let b := s.tables.beacon[k]
      { index := k.val, action := b.action,
        done := match b.action with
          | .cap => (placeCap (capsAfter (acting.filter (fun j => decide (j < k))))
              { beacon := h, cap := b.parameter }).2
          | .stop => starts k
          | _ => true }
    ∃ t, exec (.interpretationComplete after) s = .next t ∧ t.now = s.now + after ∧
      (∀ k : Fin 16, (s.tables.beacon[k].id = h → t.control.beacons[k] =
          { armed := s.control.beacons[k].armed && !decide (s.beaconActs h k), unheard := some t.now }) ∧
        (s.tables.beacon[k].id ≠ h → t.control.beacons[k] = s.control.beacons[k])) ∧
      t.control.caps = capsAfter acting ∧
      (∀ f : Fin 32,
        let written := (acting.filterMap (fun k => s.tables.beacon[k].writes f)).getLast?
        (written = none → t.control.functions[f] = s.control.functions[f]) ∧
        (∀ on, written = some on → t.control.functions[f] = { on := on, writer := .beacon })) ∧
      t.control.flags = deriveFlags t.control.functions s.tables.funcMap ∧
      t.control.effective = t.control.effectiveThrottle ∧
      ((∀ k : Fin 16, starts k = false) → t.control.stopSeq = s.control.stopSeq) ∧
      (∀ k : Fin 16, starts k = true → t.control.resume = s.control.throttle ∧
        t.control.dwellMs = s.tables.beacon[k].parameter * 1000 ∧ t.control.stopSeq ≠ .none) ∧
      (s.counters.radio.stopIgnored ≤ 65535 → t.counters.radio = { s.counters.radio with
        stopIgnored := min 65535 (s.counters.radio.stopIgnored + stops.countP (fun k => !starts k)) }) ∧
      (acting = [] → t.control.flags = s.control.flags → t.link = s.link) ∧
      (acting ≠ [] → s.smoke.latch = none → t.link.lost = false →
        t.lastNotice (.beacon h (acting.map record))) ∧
      s.keeps [.now, .link, .counters, .control, .sound, .store, .smoke] t)

/-- At an interpretation complete, whatever the packet, the next head of the queue is taken (R70, R78): its own
interpretation begins, of 250 µs and 2 ms for each hand-over counted at the taking, which leaves out who owns the part
(assumption 37): 250 µs alone for a THROTTLE, SELECT or RELEASE; and a queue left empty clears the overflow episode. -/
def Obligations.InterpretationTakesNextEntry : Prop :=
  ∀ (after : Nat) (i : Interpretation) (e : QueueEntry) (rest : List QueueEntry) (s : State),
    s.control.interp = some i → i.timer.since + i.timer.ticks ≤ s.now + after → s.radio.queue = e :: rest →
    ∃ t, exec (.interpretationComplete after) s = .next t ∧ t.now = s.now + after ∧
      t.control.interp = some { entry := e, timer := { since := t.now, ticks := 500 + 4000 * t.handOvers e } } ∧
      t.handsOver e (t.handOvers e) ∧
      (((∃ v d, e.packet = .throttle v d) ∨ e.packet = .select ∨ e.packet = .release) →
        t.control.interp = some { entry := e, timer := { since := t.now, ticks := 500 } }) ∧
      t.radio = { s.radio with queue := rest, episode := if rest = [] then false else s.radio.episode } ∧
      s.keeps [.now, .counters, .link, .radio, .control, .motion, .bridge, .sound, .store, .smoke] t

/-- OWNER_LEASE_EXPIRY (R83, R84): the owner is absent; a source RADIO is lost with the loss action, of which STOP clears
neither the estop latch nor a traction fault (assumption 31); a host that controls goes on. A lease still running, or none,
is left alone (assumptions 2 and 3). The deferred direction is absent where the loss ends a stop sequence (assumption 51). -/
def Obligations.OwnerLeaseExpiryDropsOwner : Prop :=
  (∀ (after : Nat) (s : State), s.rested → s.control.lease = none →
    ∃ t, exec (.ownerLeaseExpiry after) s = .next t ∧ t.now = s.now + after ∧ s.keeps [.now] t) ∧
  (∀ (after : Nat) (timer : Timer) (s : State), s.rested → s.control.lease = some timer →
    (s.now + after < timer.since + timer.ticks →
      ∃ t, exec (.ownerLeaseExpiry after) s = .next t ∧ t.now = s.now + after ∧ s.keeps [.now] t) ∧
    (timer.since + timer.ticks ≤ s.now + after → s.control.source ≠ .radio →
      ∃ t, exec (.ownerLeaseExpiry after) s = .next t ∧ t.now = s.now + after ∧
        t.control = { s.control with owner := none, lease := none, effective := t.control.effective } ∧
        t.control.effective = t.control.effectiveThrottle ∧ s.keeps [.now, .link, .control] t) ∧
    (timer.since + timer.ticks ≤ s.now + after → s.control.source = .radio →
      ∃ t, exec (.ownerLeaseExpiry after) s = .next t ∧ t.now = s.now + after ∧
        t.control = { ({ s.control with owner := none, lease := none } : Control).afterLoss s.tables.radio.lossAction
                      with effective := t.control.effective } ∧
        t.control.effective = t.control.effectiveThrottle ∧
        t.motion = (if s.tables.radio.lossAction = .estop then s.motion.afterEstop else s.motion) ∧
        s.keeps [.now, .link, .control, .motion, .bridge, .smoke] t))

/-- DWELL_EXPIRY and BEACON_REARM (R91, R93, R94): a dwell at its end gives back the resume throttle and a deferred
direction, which is then absent (assumption 51); an entry unheard for its re-arm time is armed. Before its time, or where
nothing runs, nothing happens (assumptions 2 and 3). -/
def Obligations.DwellEndsAndBeaconsRearm : Prop :=
  (∀ (after : Nat) (timer : Timer) (s : State), s.rested → s.control.stopSeq = .dwell timer →
    (s.now + after < timer.since + timer.ticks →
      ∃ t, exec (.dwellExpiry after) s = .next t ∧ t.now = s.now + after ∧ s.keeps [.now] t) ∧
    (timer.since + timer.ticks ≤ s.now + after →
      ∃ t, exec (.dwellExpiry after) s = .next t ∧ t.now = s.now + after ∧
        t.control = { s.control with stopSeq := .none, throttle := s.control.resume,
                                     request := s.control.deferred.getD s.control.request, deferred := none,
                                     effective := t.control.effective } ∧
        t.control.effective = t.control.effectiveThrottle ∧ s.keeps [.now, .link, .control] t)) ∧
  (∀ (after : Nat) (s : State), s.rested → (∀ timer, s.control.stopSeq ≠ .dwell timer) →
    ∃ t, exec (.dwellExpiry after) s = .next t ∧ t.now = s.now + after ∧ s.keeps [.now] t) ∧
  (∀ (after : Nat) (k : Fin 16) (s : State), s.rested →
    ∃ t, exec (.beaconRearm after k) s = .next t ∧ t.now = s.now + after ∧
      (∀ heard, s.control.beacons[k].unheard = some heard →
        s.tables.beacon[k].rearm ≤ (s.now + after - heard) / 2000 →
        t.control = { s.control with beacons := s.control.beacons.set k { armed := true, unheard := none } }) ∧
      ((∀ heard, s.control.beacons[k].unheard = some heard →
        (s.now + after - heard) / 2000 < s.tables.beacon[k].rearm) → t.control = s.control) ∧
      s.keeps [.now, .control] t)

/-- The zone caps list (R92): a known beacon's cap is replaced in place, a new one goes to the end, and to a full list
only a cap below its highest is added, the earliest of the highest giving way. -/
def Obligations.ZoneCapsKeepTheStrictest : Prop :=
  ∀ (caps : List ZoneCap) (z : ZoneCap),
    ((∃ y ∈ caps, y.beacon = z.beacon) →
      placeCap caps z = (caps.map (fun y => if y.beacon = z.beacon then z else y), true)) ∧
    ((∀ y ∈ caps, y.beacon ≠ z.beacon) → caps.length < 4 → placeCap caps z = (caps ++ [z], true)) ∧
    ((∀ y ∈ caps, y.beacon ≠ z.beacon) → 4 ≤ caps.length →
      ∀ (before later : List ZoneCap) (y : ZoneCap), caps = before ++ y :: later → (∀ x ∈ before, x.cap < y.cap) →
        (∀ x ∈ later, x.cap ≤ y.cap) →
        (z.cap < y.cap → placeCap caps z = (before ++ later ++ [z], true)) ∧
        (y.cap ≤ z.cap → placeCap caps z = (caps, false)))

/-! ## Motor and bridge -/

/-- TRACTION_PERIOD_EXPIRY (R27, R28, R30, R38): the next period begins, the trip run is settled, the accumulation takes the
reading of the current over the DRIVE time not yet read, closes with its mean over the whole time in DRIVE, and is empty
(assumption 26); the gap begins with every switch off; without a gap the gates keep their pattern but a trip ends, in COAST
(assumption 24). A timer still running, or stopped, is left alone (assumptions 2 and 3). -/
def Obligations.TractionPeriodExpiryBeginsGap : Prop :=
  (∀ (after mean : Nat) (s : State), s.rested → s.bridge.period = none →
    ∃ t, exec (.tractionPeriodExpiry after mean) s = .next t ∧ t.now = s.now + after ∧ s.keeps [.now] t) ∧
  (∀ (after mean : Nat) (timer : Timer) (s : State), s.rested → s.bridge.period = some timer →
    (s.now + after < timer.since + timer.ticks →
      ∃ t, exec (.tractionPeriodExpiry after mean) s = .next t ∧ t.now = s.now + after ∧ s.keeps [.now] t) ∧
    (timer.since + timer.ticks ≤ s.now + after →
      let a := s.bridge.accumulation
      let unread := a.unread + (match a.since with
        | none => 0
        | some b => s.now + after - b)
      let time := a.time + unread
      ∃ t, exec (.tractionPeriodExpiry after mean) s = .next t ∧ t.now = s.now + after ∧
        t.bridge.period = some { since := t.now, ticks := 8000 } ∧ t.bridge.awaiting = true ∧
        t.bridge.driving = false ∧ t.bridge.tripHere = false ∧ t.bridge.accumulation = {} ∧
        t.bridge.tripRun = (if s.bridge.tripHere then s.bridge.tripRun else 0) ∧
        t.bridge.closedCurrent = (if time = 0 then 0 else min 12000 ((a.charge + mean * unread) / time / 1000)) ∧
        t.bridge.active = s.bridge.active ∧ t.bridge.pendingLevel = s.bridge.pendingLevel ∧
        (s.tables.traction.gapUs ≠ 0 → t.bridge.state = .gap ∧ t.bridge.legA.high = 0 ∧ t.bridge.legA.low = false ∧
          t.bridge.legB.high = 0 ∧ t.bridge.legB.low = false) ∧
        (s.tables.traction.gapUs = 0 → s.bridge.state = .tripped → t.bridge.state = .coast) ∧
        (s.tables.traction.gapUs = 0 → s.bridge.state ≠ .tripped →
          t.bridge.state = s.bridge.state ∧ t.bridge.legA = s.bridge.legA ∧ t.bridge.legB = s.bridge.legB) ∧
        s.keeps [.now, .bridge] t))

/-- MEASUREMENT_COMPLETE (R3, R16, R19, R26, R29, R31, R32, R34, R163): the EMF code with the polarity of travel, the motor
current, the current ceiling and its counter, the regulation step in IDLE, RUN and REVERSING bounded by both ceilings, with
the STALL latched when the stall run reaches stall_steps (R14), the reduced step in ESTOP and FAULT, the bridge state of the
resulting traction state, which stays TRIPPED where a trip was taken since the expiry (R37) and the state is not IDLE
(assumption 58), the hand-over to a new dither group with the legs taking the new pattern at the end of the gap (R35, R36),
and the budget ceiling; then what the change of traction state does to a station stop (R93, R94) and to the smoke unit
(R140), and the ambient state with the ambient update of voice 0 (R111, R112). The fault time of a STALL is the wrapping
timestamp (assumption 40), the deferred direction is absent after a stop sequence that FAULT ends (assumption 51), and an
ambient loop that is free at once leaves the record of a FREE voice (assumption 47). What the event does to the wheel is
stated with the sensor watch. In CONFIG, with nothing awaited, or before the gap has run, nothing happens (assumptions 2 and
3). -/
def Obligations.MeasurementCompleteRunsTheStep : Prop :=
  (∀ (after : Nat) (mv : Int) (s : State), s.rested →
    (s.mode = .config ∨ s.bridge.awaiting = false ∨ s.bridge.period = none ∨
      ∃ timer, s.bridge.period = some timer ∧ s.now + after < timer.since + s.tables.traction.gapUs * 2) →
    ∃ t, exec (.measurementComplete after mv) s = .next t ∧ t.now = s.now + after ∧ s.keeps [.now] t) ∧
  (∀ (after : Nat) (mv : Int) (timer : Timer) (s : State), s.mode = .run → s.bridge.awaiting = true →
    s.bridge.period = some timer → timer.since + s.tables.traction.gapUs * 2 ≤ s.now + after →
    let table := s.tables.traction
    let forward := if s.motion.direction = .fwd then mv else -mv
    let emf := if table.gapUs = 0 then 0 else min 4095 (forward.toNat * 4095 / 28000)
    let current := s.bridge.closedCurrent
    let ceiling := if table.currentLimit < current then s.motion.ceiling - 64
      else if current * 8 ≤ table.currentLimit * 7 then min 1023 (s.motion.ceiling + 8) else s.motion.ceiling
    let measured := { s.motion with emf := emf, current := current, ceiling := ceiling }
    let step := measured.regulate table { effective := s.control.effective, request := s.control.request,
                                          shunting := s.control.flags.shunting, brake := s.control.flags.brake }
    ∃ t, exec (.measurementComplete after mv) s = .next t ∧ t.now = s.now + after ∧
      t.motion.emf = emf ∧ t.motion.current = current ∧ t.motion.ceiling = ceiling ∧
      t.counters.traction.overcurrentSteps = (if table.currentLimit < current
        then min 65535 (s.counters.traction.overcurrentSteps + 1) else s.counters.traction.overcurrentSteps) ∧
      (s.motion.state.regulating = true → t.motion.drive ≤ ceiling ∧ t.motion.drive ≤ s.motion.budget) ∧
      (s.motion.state.regulating = true → (step.stallRun = 0 ∨ step.stallRun < table.stallSteps) →
        t.motion = { step with budget := t.supply.budget }) ∧
      (s.motion.state.regulating = true → step.stallRun ≠ 0 → table.stallSteps ≤ step.stallRun →
        t.motion.state = .fault ∧ t.motion.faultCause = some .stall ∧ t.motion.faultTime = t.timestamp ∧
          t.motion.target = 0 ∧ t.motion.demand = 0 ∧ t.motion.integral = 0 ∧ t.motion.drive = 0 ∧
          t.motion.band = .normal ∧ t.motion.falling = false ∧ t.motion.stallRun = 0 ∧
          t.counters.traction.stalls = min 65535 (s.counters.traction.stalls + 1)) ∧
      (s.motion.state = .estop → t.motion = { measured with direction := s.control.request,
                                                            budget := t.supply.budget }) ∧
      (s.motion.state = .fault → t.motion = { measured with budget := t.supply.budget }) ∧
      t.bridge.active = t.motion.drive ∧ t.bridge.pendingLevel = t.motion.drive ∧ t.bridge.group = 0 ∧
      t.bridge.direction = t.motion.direction ∧ t.bridge.driving = true ∧ t.bridge.awaiting = false ∧
      t.bridge.carrierFrom = t.now ∧ t.bridge.rest = table.restMode ∧
      ((t.motion.state = .run ∨ t.motion.state = .reversing) →
        t.bridge.state = if s.bridge.tripHere = true then .tripped else .drive) ∧
      (t.motion.state = .estop → t.bridge.state = .brake) ∧ (t.motion.state = .fault → t.bridge.state = .coast) ∧
      (t.motion.state = .idle →
        t.bridge.state = if s.supply.state = .depleted ∨ table.restMode = .coast then .coast else .brake) ∧
      (t.bridge.state ≠ .drive → t.bridge.state ≠ .brake →
        t.bridge.legA.high = 0 ∧ t.bridge.legA.low = false ∧ t.bridge.legB.high = 0 ∧ t.bridge.legB.low = false) ∧
      t.bridge.tripHere = s.bridge.tripHere ∧ t.bridge.tripRun = s.bridge.tripRun ∧
      t.supply = { s.supply with budget := if s.supply.shed = 3 then max 256 (t.motion.drive - 32)
                                           else min 1023 (s.supply.budget + 16) } ∧
      s.keeps [.now, .counters, .link, .control, .motion, .bridge, .cadence, .sound, .store, .smoke, .supply] t) ∧
  -- the stop sequence, the smoke unit, the accumulation and the ambient loop at the same event
  (∀ (after : Nat) (mv : Int) (timer : Timer) (s : State), s.mode = .run → s.bridge.awaiting = true →
    s.bridge.period = some timer → timer.since + s.tables.traction.gapUs * 2 ≤ s.now + after →
    ∃ t, exec (.measurementComplete after mv) s = .next t ∧
      (s.control.stopSeq = .braking → s.motion.state ≠ .idle → t.motion.state = .idle →
        t.control = { s.control with stopSeq := .dwell { since := t.now, ticks := s.control.dwellMs * 2000 },
                                     effective := 0 }) ∧
      (s.control.stopSeq ≠ .none → s.motion.state ≠ .fault → t.motion.state = .fault →
        t.control = { s.control.freed with throttle := 0, effective := t.control.effective }) ∧
      (s.control.stopSeq = .none → t.control.stopSeq = .none ∧ t.control.throttle = s.control.throttle) ∧
      (s.motion.state ≠ .idle → t.motion.state = .idle → t.smoke.stoppedFrom = some t.now) ∧
      (s.motion.state = .idle → t.motion.state ≠ .idle → t.smoke.stoppedFrom = none ∧
        (s.smoke.state = .standby → t.smoke.state =
          if s.smoke.hotEnough s.tables.smoke then .ready else .warming)) ∧
      (s.bridge.accumulation.since = none → t.bridge.accumulation = { s.bridge.accumulation with
        since := if t.bridge.state = .drive then some t.now else none }) ∧
      (let moves := t.motion.state = .run ∨ t.motion.state = .reversing
       let drifts := 0 < t.motion.demandCode ∧ t.motion.band = .light
       t.sound.ambient = if moves then (if drifts then .drifting else .working) else .stopped) ∧
      s.updatesAmbient s.supply.state t.sound.ambient t.motion s.sound.voices[(0 : Fin 8)]
        t.sound.voices[(0 : Fin 8)] ∧
      (s.bridge.state = .gap →
        s.legsFollow t t.bridge.state t.motion.direction (stepCount t.motion.drive 0)))

/-- The target code of the speed curve (R4): 0 for throttle 0 whatever V0 holds; otherwise the interpolation between two
neighbouring points with the quotient truncated toward zero, which lies between them; on the default curve 4·T up to
960, then rising from 3840 to 4091; and a target of 0 is the step of a locomotive asked to stand, whatever the throttle. -/
def Obligations.TargetCodeFollowsTheCurve : Prop :=
  (∀ (m : Motion) (t : TractionTable) (i : StepInput), (m.direction = i.request ∨ m.demand = 0) → i.effective = 0 →
    (m.regulate t i).target = 0) ∧
  (∀ (m : Motion) (t : TractionTable) (i : StepInput) (k : Fin 16) (f : Nat),
    (m.direction = i.request ∨ m.demand = 0) → f < 64 → i.effective = 64 * k.val + f → i.effective ≠ 0 →
    let v0 := t.curve[k.castSucc]
    let v1 := t.curve[k.succ]
    ((m.regulate t i).target : Int) = (v0 : Int) + Int.tdiv (((v1 : Int) - (v0 : Int)) * (f : Int)) 64 ∧
      min v0 v1 ≤ (m.regulate t i).target ∧ (m.regulate t i).target ≤ max v0 v1) ∧
  (∀ (m : Motion) (t : TractionTable) (i : StepInput), (m.direction = i.request ∨ m.demand = 0) →
    t.curve = defaultCurve → i.effective ≤ 1023 →
    (i.effective ≤ 960 → (m.regulate t i).target = 4 * i.effective) ∧
    (960 ≤ i.effective → 3840 ≤ (m.regulate t i).target ∧ (m.regulate t i).target ≤ 4091) ∧
    (i.effective = 1023 → (m.regulate t i).target = 4091) ∧
    (∀ j : StepInput, j.request = i.request → j.effective < i.effective →
      (m.regulate t j).target < (m.regulate t i).target)) ∧
  (∀ (m : Motion) (t : TractionTable) (i : StepInput), (m.regulate t i).target = 0 →
    m.regulate t i = m.regulate t { i with effective := 0 })

/-- The demand moves toward the goal by a rising or a falling step, at once where the step is 0, never past the goal, and
demand falling says whether it fell (R8). -/
def Obligations.DemandMovesTowardTheGoal : Prop :=
  ∀ (m : Motion) (t : TractionTable) (i : StepInput),
    let n := m.regulate t i
    let goal := n.target * 256
    let rising := risingStep t i.shunting
    let falling := fallingStep t i.shunting i.brake
    (m.demand < goal → rising ≠ 0 → n.demand = min goal (m.demand + rising)) ∧
    (goal < m.demand → falling ≠ 0 → n.demand = max goal (m.demand - falling)) ∧
    (m.demand = goal → n.demand = m.demand) ∧
    (m.demand < goal → rising = 0 → n.demand = goal) ∧
    (goal < m.demand → falling = 0 → n.demand = goal) ∧
    (n.falling = true ↔ n.demand < m.demand) ∧
    min m.demand goal ≤ n.demand ∧ n.demand ≤ max m.demand goal

/-- The momentum steps with their factors (R7: shunting doubles both, brake quadruples the falling one, 65535 at most), the
regulator, the load band, the stall run and the state at the end of a step (R5, R9 to R15): OPEN and CLOSED drive levels
under both ceilings, conditional integration, HEAVY before LIGHT, and the direction switch only from demand 0. -/
def Obligations.RegulationStepFigures : Prop :=
  ∀ (m : Motion) (t : TractionTable) (i : StepInput),
    let n := m.regulate t i
    let code := n.demand / 256
    let e : Int := (code : Int) - (m.emf : Int)
    let candidate : Int := max 0 (min 262143 ((m.integral : Int) + (t.ki : Int) * e))
    let raw : Int := ((t.kp : Int) * e + candidate).fdiv 256
    let x : Int := (n.drive : Int) - ((code / 4 : Nat) : Int)
    let override := m.direction ≠ i.request ∧ m.demand ≠ 0
    (m.demand < n.target * 256 → t.accelRate ≠ 0 →
      n.demand = min (n.target * 256) (m.demand + min 65535 (if i.shunting then 2 * t.accelRate else t.accelRate))) ∧
    (n.target * 256 < m.demand → t.decelRate ≠ 0 →
      let brake := if i.brake then 4 * t.decelRate else t.decelRate
      n.demand = max (n.target * 256) (m.demand - min 65535 (if i.shunting then 2 * brake else brake))) ∧
    (t.regulation = .openLoop → n.integral = 0 ∧ n.drive = min (min (min 1023 (code / 4)) m.ceiling) m.budget) ∧
    (t.regulation = .closedLoop → code = 0 → n.integral = 0 ∧ n.drive = 0) ∧
    (t.regulation = .closedLoop → code ≠ 0 →
      n.drive = min (min (min 1023 raw.toNat) m.ceiling) m.budget ∧
      (n.integral : Int) = (if (n.drive : Int) < raw ∧ 0 < e then (m.integral : Int) else candidate)) ∧
    (m.integral ≤ 262143 → n.integral ≤ 262143) ∧
    ((t.heavyMargin : Int) ≤ x → n.band = .heavy) ∧
    (x < (t.heavyMargin : Int) → (x ≤ -(t.lightMargin : Int) ∨ n.falling = true) → n.band = .light) ∧
    (x < (t.heavyMargin : Int) → -(t.lightMargin : Int) < x → n.falling = false → n.band = .normal) ∧
    n.stallRun = (if t.stallDuty ≠ 0 ∧ t.gapUs ≠ 0 ∧ t.stallDuty ≤ n.drive ∧ m.emf < t.stallEmf
      then min 255 (m.stallRun + 1) else 0) ∧
    (override → n.state = .reversing ∧ n.target = 0 ∧ n.direction = m.direction) ∧
    (¬override → n.direction = i.request) ∧
    (¬override → (n.target ≠ 0 ∨ n.demand ≠ 0) → n.state = .run) ∧
    (¬override → n.target = 0 → n.demand = 0 → n.state = .idle) ∧
    (n.state = .idle → n.drive = 0)

/-- SHORT_TRIP (R34, R37, R38): in DRIVE, at short_trip or more, the bridge turns every switch off, the current accumulation
stops, and the trip is counted; the third trip of a run latches SHORT instead, which ends a stop sequence with throttle 0
(R94). Outside DRIVE, or below short_trip, nothing happens. The fault time is the wrapping timestamp (assumption 40), the
TRACTION_FAULT notice goes before the STOP_SEQUENCE notice (assumption 14), and the deferred direction is absent after the
sequence (assumption 51). -/
def Obligations.ShortTripTripsTheBridge : Prop :=
  ∀ (after current : Nat) (s : State), s.rested →
    ((s.bridge.state ≠ .drive ∨ current < s.tables.traction.shortTrip) →
      ∃ t, exec (.shortTrip after current) s = .next t ∧ t.now = s.now + after ∧ s.keeps [.now] t) ∧
    (s.bridge.state = .drive → s.tables.traction.shortTrip ≤ current → s.bridge.tripRun < 2 →
      ∃ t, exec (.shortTrip after current) s = .next t ∧ t.now = s.now + after ∧
        t.bridge.state = .tripped ∧ t.bridge.tripRun = s.bridge.tripRun + 1 ∧ t.bridge.tripHere = true ∧
        t.bridge.legA.high = 0 ∧ t.bridge.legA.low = false ∧ t.bridge.legB.high = 0 ∧ t.bridge.legB.low = false ∧
        t.bridge.active = s.bridge.active ∧ t.bridge.pendingLevel = s.bridge.pendingLevel ∧
        (∀ b, s.bridge.accumulation.since = some b → t.bridge.accumulation = { s.bridge.accumulation with
          unread := s.bridge.accumulation.unread + (t.now - b), since := none }) ∧
        (s.bridge.accumulation.since = none → t.bridge.accumulation = s.bridge.accumulation) ∧
        t.counters.traction = { s.counters.traction with
          shortTrips := min 65535 (s.counters.traction.shortTrips + 1) } ∧
        s.keeps [.now, .counters, .bridge] t) ∧
    (s.bridge.state = .drive → s.tables.traction.shortTrip ≤ current → 2 ≤ s.bridge.tripRun →
      s.motion.state.regulating = true →
      ∃ t, exec (.shortTrip after current) s = .next t ∧ t.now = s.now + after ∧
        t.bridge.state = .coast ∧ t.bridge.tripRun = 0 ∧ t.bridge.active = 0 ∧ t.bridge.pendingLevel = 0 ∧
        t.motion = { s.motion with state := .fault, faultCause := some .short, faultTime := t.timestamp, target := 0,
                                   demand := 0, integral := 0, drive := 0, band := .normal, falling := false,
                                   stallRun := 0 } ∧
        t.counters.traction = { s.counters.traction with
          shortTrips := min 65535 (s.counters.traction.shortTrips + 1),
          shorts := min 65535 (s.counters.traction.shorts + 1) } ∧
        (s.ready → t.link.onLine = some (.notice (t.noticed (.tractionFault .short)))) ∧
        t.bridge.accumulation.since = none ∧
        (s.control.stopSeq = .none → t.control = s.control) ∧
        (s.control.stopSeq ≠ .none →
          t.control = { s.control.freed with throttle := 0, effective := t.control.effective } ∧
          t.control.effective = t.control.effectiveThrottle) ∧
        s.keeps [.now, .counters, .link, .control, .motion, .bridge, .smoke] t)

/-- Dither and dead time (R30, R33 to R35): the four step counts of a group are those of the table of R33 and sum to the
active level; a carrier period or a dither group starts only when the one before has run (assumptions 2, 3 and 30), with a
reading of the current over the DRIVE time not yet read (assumption 26); at either the legs follow the pattern of the bridge
state: in DRIVE the leg of the direction takes the step count of the new position, of position 0 at the active level that was
pending where a group begins, or holds it while its low side has been off for less than the dead time, as after a reversal or a
brake, and the other leg holds its low side on. A held turn-on takes place when the dead time has run, not before, and a held
on-window within what is left of it (assumption 41). -/
def Obligations.CarrierDitherAndDeadTime : Prop :=
  (∀ q r : Nat, r < 4 → 4 * q + r ≤ 1023 →
    stepCount (4 * q + r) 0 = q + (if r = 0 then 0 else 1) ∧
    stepCount (4 * q + r) 1 = q + (if r = 3 then 1 else 0) ∧
    stepCount (4 * q + r) 2 = q + (if 2 ≤ r then 1 else 0) ∧ stepCount (4 * q + r) 3 = q ∧
    stepCount (4 * q + r) 0 + stepCount (4 * q + r) 1 + stepCount (4 * q + r) 2 + stepCount (4 * q + r) 3 =
      4 * q + r ∧ stepCount (4 * q + r) 0 ≤ 256) ∧
  (∀ (after mean : Nat) (s : State), s.rested →
    let a := s.bridge.accumulation
    let unread := a.unread + (match a.since with
      | none => 0
      | some b => s.now + after - b)
    let reads (t : State) := t.bridge.accumulation =
      { charge := a.charge + mean * unread, time := a.time + unread, unread := 0,
        since := if a.since = none then none else some t.now } ∧ t.bridge.closedCurrent = s.bridge.closedCurrent
    let periodOver := s.bridge.driving = true ∧ s.bridge.carrierFrom + s.tables.traction.carrier.ticks ≤ s.now + after
    let newGroup (t : State) := t.bridge.group = 0 ∧ t.bridge.active = s.bridge.pendingLevel ∧
      t.bridge.carrierFrom = t.now ∧ t.bridge.state = s.bridge.state ∧ reads t ∧
      s.legsFollow t s.bridge.state s.bridge.direction (stepCount s.bridge.pendingLevel 0) ∧ s.keeps [.now, .bridge] t
    (¬periodOver → (∃ t, exec (.carrierPeriodStart ⟨after, mean⟩) s = .next t ∧ t.now = s.now + after ∧ s.keeps [.now] t) ∧
      (∃ t, exec (.ditherGroupStart ⟨after, mean⟩) s = .next t ∧ t.now = s.now + after ∧ s.keeps [.now] t)) ∧
    (periodOver → s.bridge.group < 3 →
      (∃ t, exec (.carrierPeriodStart ⟨after, mean⟩) s = .next t ∧ t.now = s.now + after ∧
        t.bridge.group = s.bridge.group + 1 ∧ t.bridge.active = s.bridge.active ∧ t.bridge.carrierFrom = t.now ∧
        t.bridge.state = s.bridge.state ∧ reads t ∧
        s.legsFollow t s.bridge.state s.bridge.direction (stepCount s.bridge.active (s.bridge.group + 1)) ∧
        s.keeps [.now, .bridge] t) ∧
      (∃ t, exec (.ditherGroupStart ⟨after, mean⟩) s = .next t ∧ t.now = s.now + after ∧ s.keeps [.now] t)) ∧
    (periodOver → 3 ≤ s.bridge.group →
      (∃ t, exec (.carrierPeriodStart ⟨after, mean⟩) s = .next t ∧ t.now = s.now + after ∧ newGroup t) ∧
      (∃ t, exec (.ditherGroupStart ⟨after, mean⟩) s = .next t ∧ t.now = s.now + after ∧ newGroup t))) ∧
  (∀ (after : Nat) (s : State), s.rested →
    let held (t : State) (l m : Leg) (off : Nat) :=
      (off + s.tables.traction.deadTenths / 5 ≤ t.now → m.heldHigh = 0 ∧
        m.high = if (t.now - s.bridge.carrierFrom) * 256 < l.heldHigh * s.tables.traction.carrier.ticks
          then l.heldHigh else l.high) ∧
      (t.now < off + s.tables.traction.deadTenths / 5 → m.high = l.high ∧ m.heldHigh = l.heldHigh)
    ∃ t, exec (.deadTimeElapsed after) s = .next t ∧ t.now = s.now + after ∧
      (∀ off, s.bridge.legA.heldLow = true → s.bridge.legA.high = 0 → s.bridge.legA.highOff = some off →
        (off + s.tables.traction.deadTenths / 5 ≤ t.now → t.bridge.legA.low = true ∧ t.bridge.legA.heldLow = false) ∧
        (t.now < off + s.tables.traction.deadTenths / 5 →
          t.bridge.legA.low = s.bridge.legA.low ∧ t.bridge.legA.heldLow = true)) ∧
      (∀ off, s.bridge.legB.heldLow = true → s.bridge.legB.high = 0 → s.bridge.legB.highOff = some off →
        (off + s.tables.traction.deadTenths / 5 ≤ t.now → t.bridge.legB.low = true ∧ t.bridge.legB.heldLow = false) ∧
        (t.now < off + s.tables.traction.deadTenths / 5 →
          t.bridge.legB.low = s.bridge.legB.low ∧ t.bridge.legB.heldLow = true)) ∧
      (∀ off, s.bridge.legA.heldHigh ≠ 0 → s.bridge.legA.low = false → s.bridge.legA.heldLow = false →
        s.bridge.legA.lowOff = some off → held t s.bridge.legA t.bridge.legA off) ∧
      (∀ off, s.bridge.legB.heldHigh ≠ 0 → s.bridge.legB.low = false → s.bridge.legB.heldLow = false →
        s.bridge.legB.lowOff = some off → held t s.bridge.legB t.bridge.legB off) ∧
      (s.bridge.legA.heldLow = false → s.bridge.legA.heldHigh = 0 → t.bridge.legA = s.bridge.legA) ∧
      (s.bridge.legB.heldLow = false → s.bridge.legB.heldHigh = 0 → t.bridge.legB = s.bridge.legB) ∧
      s.keeps [.now, .bridge] t)

/-! ## The wheel -/

/-- AXLE_EDGE and CAPTURE_TIMER_SATURATION (R44 to R47, R51, R54, R57, R93): edges that are not sampled, bounce, a start
edge, an edge of a revolution, the edge that completes one, phases its chuffs and counts down a station stop, the edge that
clears the sensor fault flag in SENSOR and the recovery edge in AUTO, which stops the revolution timer and leaves the chuffs
of the synthetic revolution to fall; the start edge and the recovery edge also with the capture timer stopped at 65535, as it
is after a sensor timeout of 656 ms or more, or reaching it with the edge (assumption 22); the SENSOR notice of either, which
carries the revolution count after the edge (assumption 23) and goes behind the notices of a revolution that the edge
completes (assumption 56); and a wheel taken as stopped when the timer stands at 65535, before which a saturation does
nothing (assumptions 2 and 3). -/
def Obligations.AxleEdgesAndSaturation : Prop :=
  (∀ (after : Nat) (s : State), s.rested → (s.mode = .config ∨ s.tables.cadence.sensorMode = .synthetic) →
    ∃ t, exec (.axleEdge after) s = .next t ∧ t.now = s.now + after ∧ s.keeps [.now] t) ∧
  (∀ (after since : Nat) (s : State), s.rested → s.mode = .run → s.tables.cadence.sensorMode ≠ .synthetic →
    s.cadence.captureFrom = some since →
    let captured := (s.now + after - since) / 20
    let sum := s.cadence.intervalSum + captured
    let interval := max 10 (min (sum / 10) 65535)
    let chuffs := s.tables.cadence.chuffs
    let watch := s.cadence.watch.map (fun _ => s.now + after)
    (captured < 65535 → captured < s.tables.cadence.debounce * 10 →
      ∃ t, exec (.axleEdge after) s = .next t ∧ t.now = s.now + after ∧ s.keeps [.now] t) ∧
    (captured < 65535 → s.tables.cadence.debounce * 10 ≤ captured → s.cadence.faultFlag = false →
      s.cadence.startAwaited = true →
      ∃ t, exec (.axleEdge after) s = .next t ∧ t.now = s.now + after ∧
        t.cadence = { s.cadence with captureFrom := some t.now, startAwaited := false, edges := 0, intervalSum := 0,
                                     watch := watch } ∧ s.keeps [.now, .cadence] t) ∧
    (captured < 65535 → s.tables.cadence.debounce * 10 ≤ captured → s.cadence.faultFlag = false →
      s.cadence.startAwaited = false → s.cadence.edges + 1 < s.tables.cadence.edges →
      ∃ t, exec (.axleEdge after) s = .next t ∧ t.now = s.now + after ∧
        t.cadence = { s.cadence with captureFrom := some t.now, edges := s.cadence.edges + 1, intervalSum := sum,
                                     watch := watch } ∧ s.keeps [.now, .cadence] t) ∧
    (captured < 65535 → s.tables.cadence.debounce * 10 ≤ captured → s.cadence.faultFlag = false →
      s.cadence.startAwaited = false → s.tables.cadence.edges ≤ s.cadence.edges + 1 →
      ∃ t, exec (.axleEdge after) s = .next t ∧ t.now = s.now + after ∧
        t.cadence = { s.cadence with
          captureFrom := some t.now, edges := 0, intervalSum := 0, watch := watch, revInterval := some interval,
          revCount := (s.cadence.revCount + 1) % 4294967296, chuffsInUse := chuffs,
          chuffInterval := some (max 1 (interval / chuffs)), chuffsLeft := chuffs - 1,
          chuffTimer := if 1 < chuffs then some { since := t.now, ticks := max 1 (interval / chuffs) * 200 }
                        else none } ∧
        (s.control.stopSeq = .none → t.control = s.control) ∧
        (∀ n, s.control.stopSeq = .counting n →
          t.control = { s.control with
            stopSeq := if 2 ≤ n then .counting (n - 1) else if s.motion.state = .idle
              then .dwell { since := t.now, ticks := s.control.dwellMs * 2000 } else .braking,
            effective := t.control.effective } ∧
          t.control.effective = t.control.effectiveThrottle) ∧
        s.keeps [.now, .link, .counters, .control, .cadence, .sound, .store, .smoke] t) ∧
    (captured < 65535 → s.tables.cadence.debounce * 10 ≤ captured → s.cadence.faultFlag = true →
      s.tables.cadence.sensorMode = .auto → s.cadence.startAwaited = true →
      ∃ t, exec (.axleEdge after) s = .next t ∧ t.now = s.now + after ∧
        t.cadence = { s.cadence with captureFrom := some t.now, startAwaited := false, edges := 0, intervalSum := 0,
                                     watch := watch, faultFlag := false, inUse := .sensor, revTimer := none } ∧
        (s.linkQuiet →
          t.link.onLine = some (.notice (t.noticed (.sensor false .sensor s.cadence.revCount)))) ∧
        s.keeps [.now, .link, .cadence] t) ∧
    (captured < 65535 → s.tables.cadence.debounce * 10 ≤ captured → s.cadence.faultFlag = true →
      s.tables.cadence.sensorMode = .sensor →
      (s.cadence.startAwaited = true ∨ s.cadence.edges + 1 < s.tables.cadence.edges) →
      ∃ t, exec (.axleEdge after) s = .next t ∧ t.now = s.now + after ∧
        t.cadence = { s.cadence with
          captureFrom := some t.now, startAwaited := false, watch := watch, faultFlag := false,
          edges := if s.cadence.startAwaited then 0 else s.cadence.edges + 1,
          intervalSum := if s.cadence.startAwaited then 0 else sum } ∧
        (s.linkQuiet →
          t.link.onLine = some (.notice (t.noticed (.sensor false s.cadence.inUse s.cadence.revCount)))) ∧
        s.keeps [.now, .link, .cadence] t) ∧
    (65535 ≤ captured → s.tables.cadence.debounce * 10 ≤ 65535 → s.cadence.inUse = .sensor →
      s.cadence.faultFlag = false →
      ∃ t, exec (.axleEdge after) s = .next t ∧ t.now = s.now + after ∧
        t.cadence = { s.cadence with
          captureFrom := some t.now, startAwaited := false, watch := watch, revInterval := none,
          chuffInterval := none, chuffsLeft := 0, chuffTimer := none, edges := 0, intervalSum := 0 } ∧
        s.keeps [.now, .cadence] t) ∧
    (captured < 65535 →
      ∃ t, exec (.captureTimerSaturation after) s = .next t ∧ t.now = s.now + after ∧ s.keeps [.now] t)) ∧
  (∀ (after since : Nat) (s : State), s.rested → s.cadence.captureFrom = some since →
    65535 ≤ (s.now + after - since) / 20 →
    ∃ t, exec (.captureTimerSaturation after) s = .next t ∧ t.now = s.now + after ∧
      t.cadence = (if s.cadence.inUse = .synthetic then { s.cadence with captureFrom := none }
        else { s.cadence with captureFrom := none, revInterval := none, chuffInterval := none, chuffsLeft := 0,
                              chuffTimer := none, edges := 0, intervalSum := 0, startAwaited := true }) ∧
      s.keeps [.now, .cadence] t) ∧
  (∀ (after : Nat) (s : State), s.rested → s.cadence.captureFrom = none →
    ∃ t, exec (.captureTimerSaturation after) s = .next t ∧ t.now = s.now + after ∧ s.keeps [.now] t) ∧
  -- the start edge while the capture timer stands at 65535 or reaches it, the recovery edge among them
  (∀ (after : Nat) (s : State), s.rested → s.mode = .run → s.tables.cadence.sensorMode ≠ .synthetic →
    s.tables.cadence.debounce * 10 ≤ 65535 →
    (∀ since, s.cadence.captureFrom = some since → 65535 ≤ (s.now + after - since) / 20) →
    let c := s.cadence
    let stops := c.captureFrom ≠ none ∧ c.inUse = .sensor
    let recovers := c.faultFlag = true ∧ s.tables.cadence.sensorMode = .auto
    (c.startAwaited = true ∨ stops) →
    ∃ t, exec (.axleEdge after) s = .next t ∧ t.now = s.now + after ∧
      t.cadence = { c with
        captureFrom := some t.now, startAwaited := false, edges := 0, intervalSum := 0,
        watch := c.watch.map (fun _ => t.now), faultFlag := false,
        inUse := if recovers then .sensor else c.inUse, revTimer := if recovers then none else c.revTimer,
        revInterval := if stops then none else c.revInterval, chuffInterval := if stops then none else c.chuffInterval,
        chuffsLeft := if stops then 0 else c.chuffsLeft, chuffTimer := if stops then none else c.chuffTimer } ∧
      (c.faultFlag = true → s.linkQuiet →
        t.link.onLine = some (.notice (t.noticed (.sensor false t.cadence.inUse c.revCount)))) ∧
      (c.faultFlag = false → s.keeps [.now, .cadence] t) ∧ s.keeps [.now, .link, .cadence] t) ∧
  -- the edge that clears the sensor fault flag in mode SENSOR and completes a revolution
  (∀ (after since : Nat) (s : State), s.rested → s.mode = .run → s.tables.cadence.sensorMode = .sensor →
    s.cadence.captureFrom = some since → s.cadence.faultFlag = true → s.cadence.startAwaited = false →
    s.tables.cadence.edges ≤ s.cadence.edges + 1 →
    let captured := (s.now + after - since) / 20
    let interval := max 10 (min ((s.cadence.intervalSum + captured) / 10) 65535)
    let chuffs := s.tables.cadence.chuffs
    captured < 65535 → s.tables.cadence.debounce * 10 ≤ captured →
    ∃ t, exec (.axleEdge after) s = .next t ∧ t.now = s.now + after ∧
      t.cadence = { s.cadence with
        captureFrom := some t.now, edges := 0, intervalSum := 0, watch := s.cadence.watch.map (fun _ => t.now),
        faultFlag := false, revInterval := some interval, revCount := (s.cadence.revCount + 1) % 4294967296,
        chuffsInUse := chuffs, chuffInterval := some (max 1 (interval / chuffs)), chuffsLeft := chuffs - 1,
        chuffTimer := if 1 < chuffs then some { since := t.now, ticks := max 1 (interval / chuffs) * 200 }
                      else none } ∧
      (s.link.notices.length ≤ 12 → t.lastNotice (.sensor false s.cadence.inUse t.cadence.revCount)) ∧
      (s.control.stopSeq = .none → t.control = s.control) ∧
      (∀ n, s.control.stopSeq = .counting n →
        t.control = { s.control with
          stopSeq := if 2 ≤ n then .counting (n - 1) else if s.motion.state = .idle
            then .dwell { since := t.now, ticks := s.control.dwellMs * 2000 } else .braking,
          effective := t.control.effective } ∧
        (2 ≤ n → s.link.notices.length ≤ 12 →
          .notice (t.noticed (.stopSequence { code := 1, value := n - 1 } s.control.resume none)) ∈ t.outgoing)) ∧
      s.keeps [.now, .link, .counters, .control, .cadence, .sound, .store, .smoke] t)

/-- CHUFF_TIMER_EXPIRY and REVOLUTION_TIMER_EXPIRY (R47, R50): one chuff fewer is left and the timer runs again while
any is; a synthetic revolution is counted, its chuffs phased from the interval as it stands, the timer starts again, and a
station stop counts down (R93). A chuff event plays the sample of its speed and load band on a chuff voice (R110), with
priority 0 (assumption 32), and in READY or STANDBY blows a puff sized by its interval (R144). A timer still running, or
stopped, is left alone (assumptions 2 and 3). -/
def Obligations.ChuffAndRevolutionTimers : Prop :=
  (∀ (after : Nat) (s : State), s.rested → s.cadence.chuffTimer = none →
    ∃ t, exec (.chuffTimerExpiry after) s = .next t ∧ t.now = s.now + after ∧ s.keeps [.now] t) ∧
  (∀ (after : Nat) (timer : Timer) (s : State), s.rested → s.cadence.chuffTimer = some timer →
    (s.now + after < timer.since + timer.ticks →
      ∃ t, exec (.chuffTimerExpiry after) s = .next t ∧ t.now = s.now + after ∧ s.keeps [.now] t) ∧
    (timer.since + timer.ticks ≤ s.now + after → ∀ interval, s.cadence.chuffInterval = some interval →
      ∃ t, exec (.chuffTimerExpiry after) s = .next t ∧ t.now = s.now + after ∧
        t.cadence = { s.cadence with
          chuffsLeft := s.cadence.chuffsLeft - 1,
          chuffTimer := if s.cadence.chuffsLeft ≤ 1 then none else some { since := t.now, ticks := interval * 200 } } ∧
        s.keeps [.now, .link, .counters, .cadence, .sound, .store, .smoke] t)) ∧
  (∀ (after : Nat) (s : State), s.rested → s.cadence.revTimer = none →
    ∃ t, exec (.revolutionTimerExpiry after) s = .next t ∧ t.now = s.now + after ∧ s.keeps [.now] t) ∧
  (∀ (after : Nat) (timer : Timer) (s : State), s.rested → s.cadence.revTimer = some timer →
    (s.now + after < timer.since + timer.ticks →
      ∃ t, exec (.revolutionTimerExpiry after) s = .next t ∧ t.now = s.now + after ∧ s.keeps [.now] t) ∧
    (timer.since + timer.ticks ≤ s.now + after → ∀ r, s.cadence.revInterval = some r →
      let chuffs := s.tables.cadence.chuffs
      ∃ t, exec (.revolutionTimerExpiry after) s = .next t ∧ t.now = s.now + after ∧
        t.cadence = { s.cadence with
          revTimer := some { since := t.now, ticks := r * 200 },
          revCount := (s.cadence.revCount + 1) % 4294967296, chuffsInUse := chuffs,
          chuffInterval := some (max 1 (r / chuffs)), chuffsLeft := chuffs - 1,
          chuffTimer := if 1 < chuffs then some { since := t.now, ticks := max 1 (r / chuffs) * 200 } else none } ∧
        (s.control.stopSeq = .none → t.control = s.control) ∧
        (∀ n, s.control.stopSeq = .counting n →
          t.control = { s.control with
            stopSeq := if 2 ≤ n then .counting (n - 1) else if s.motion.state = .idle
              then .dwell { since := t.now, ticks := s.control.dwellMs * 2000 } else .braking,
            effective := t.control.effective } ∧
          t.control.effective = t.control.effectiveThrottle) ∧
        s.keeps [.now, .link, .counters, .control, .cadence, .sound, .store, .smoke] t)) ∧
  -- the chuff event at the Sound Engine and the Smoke Unit
  (∀ (after interval : Nat) (timer : Timer) (s : State), s.rested → s.cadence.chuffTimer = some timer →
    timer.since + timer.ticks ≤ s.now + after → s.cadence.chuffInterval = some interval →
    let table := s.tables.chuff
    let n := s.sound
    let code := s.motion.demandCode
    let speed := (if table.threshold1 ≤ code then 1 else 0) + (if table.threshold2 ≤ code then 1 else 0) +
      (if table.threshold3 ≤ code then 1 else 0)
    let load := if s.motion.band = .light then 0 else if s.motion.band = .normal then 1 else 2
    let chosen : Option Nat := table.slots.getD (3 * speed + load) none
    let heard := s.mode = .run ∧ s.supply.state ≠ .depleted ∧ 0 < code
    let chuffs (i : Fin 8) := 1 ≤ i.val ∧ i.val ≤ n.reserve
    let plays (t : State) (i : Fin 8) (e : SampleEntry) :=
      t.sound.voices[i] = { state := .playing, content := some .chuff, host := false, cls := .oneShot, priority := 0,
                            sample := e, gain := table.gain, gainMode := .load, release := 0, position := 0,
                            multiplier := 256, horn := false, firing := false, waiting := true,
                            applied := gainOf table.gain .load code s.motion.band } ∧
      (∀ j : Fin 8, j ≠ i → t.sound.voices[j] = n.voices[j]) ∧ t.sound.order = n.order.erase i ++ [i] ∧
      t.counters = s.counters
    ∃ t, exec (.chuffTimerExpiry after) s = .next t ∧
      (¬heard → t.sound = n ∧ t.counters = s.counters) ∧
      (heard → chosen = none → t.sound = n ∧ t.counters = s.counters) ∧
      (heard → ∀ slot, chosen = some slot →
        let e := s.tables.sampleAt slot
        (e.length = 0 → t.sound = n ∧
          t.counters.sound = { s.counters.sound with noSample := min 65535 (s.counters.sound.noSample + 1) }) ∧
        (e.length ≠ 0 → s.store.blocks e = true → t.sound = n ∧
          t.counters.sound = { s.counters.sound with sampleBusy := min 65535 (s.counters.sound.sampleBusy + 1) }) ∧
        (e.length ≠ 0 → s.store.blocks e = false →
          (∀ i : Fin 8, chuffs i → n.voices[i].state = .free →
            (∀ j : Fin 8, j < i → chuffs j → n.voices[j].state ≠ .free) → plays t i e) ∧
          ((∀ i : Fin 8, chuffs i → n.voices[i].state ≠ .free) →
            ∀ (older younger : List (Fin 8)) (i : Fin 8), n.order = older ++ i :: younger → chuffs i →
              (∀ j ∈ older, ¬chuffs j) → plays t i e))) ∧
      ((s.smoke.state ≠ .ready ∧ s.smoke.state ≠ .standby) → t.smoke = s.smoke) ∧
      ((s.smoke.state = .ready ∨ s.smoke.state = .standby) →
        let ms := min s.tables.smoke.puffLength (interval * 3 / 40)
        t.smoke = { s.smoke with
          fan := if s.motion.band = .light then s.tables.smoke.puffLight
                 else if s.motion.band = .normal then s.tables.smoke.puffNormal else s.tables.smoke.puffHeavy,
          burst := some { since := t.now, ticks := (if ms = 0 then 1 else ms) * 2000 } }))

/-- SENSOR_WATCH_EXPIRY and what MEASUREMENT_COMPLETE does to the wheel (R49 to R53, R57). At the expiry in SENSOR the fault
is flagged and the sensor kept; in AUTO the beat passes to synthetic cadence, with a revolution at once where the EMF gives
an interval (assumption 43) and no chuff interval where it gives none (assumption 42); either way with a SENSOR notice. A
watch still running, or stopped, is left alone (assumptions 2 and 3). At MEASUREMENT_COMPLETE the watch starts, goes on or
stops by the EMF code, and in SYNTHETIC the revolution interval is taken from it: from stopped, a revolution at once, which
counts a station stop down; a new interval for the revolution timer to come; or the stop, with the chuffs that remain
dropped. -/
def Obligations.SensorWatchDeclaresFault : Prop :=
  (∀ (after : Nat) (s : State), s.rested → s.cadence.watch = none →
    ∃ t, exec (.sensorWatchExpiry after) s = .next t ∧ t.now = s.now + after ∧ s.keeps [.now] t) ∧
  (∀ (after since : Nat) (s : State), s.rested → s.cadence.watch = some since →
    let c := s.tables.cadence
    let watched := (s.now + after - since) / 2000
    (watched < c.timeout →
      ∃ t, exec (.sensorWatchExpiry after) s = .next t ∧ t.now = s.now + after ∧ s.keeps [.now] t) ∧
    (c.timeout ≤ watched → c.sensorMode = .sensor →
      ∃ t, exec (.sensorWatchExpiry after) s = .next t ∧ t.now = s.now + after ∧
        t.cadence = { s.cadence with watch := none, faultFlag := true } ∧
        (s.linkQuiet →
          t.link.onLine = some (.notice (t.noticed (.sensor true s.cadence.inUse s.cadence.revCount)))) ∧
        s.keeps [.now, .link, .cadence] t) ∧
    (c.timeout ≤ watched → c.sensorMode = .auto → (s.motion.emf = 0 ∨ s.motion.emf < c.emfFloor) →
      ∃ t, exec (.sensorWatchExpiry after) s = .next t ∧ t.now = s.now + after ∧
        t.cadence.faultFlag = true ∧ t.cadence.inUse = .synthetic ∧ t.cadence.revInterval = none ∧
        t.cadence.chuffsLeft = 0 ∧ t.cadence.chuffTimer = none ∧ t.cadence.startAwaited = true ∧
        t.cadence.revCount = s.cadence.revCount ∧ t.cadence.chuffInterval = none ∧
        (s.linkQuiet →
          t.link.onLine = some (.notice (t.noticed (.sensor true .synthetic s.cadence.revCount)))) ∧
        s.keeps [.now, .link, .cadence] t) ∧
    (c.timeout ≤ watched → c.sensorMode = .auto → s.motion.emf ≠ 0 → c.emfFloor ≤ s.motion.emf →
      let r := max 10 (min (c.kc * 100 / s.motion.emf) 65535)
      ∃ t, exec (.sensorWatchExpiry after) s = .next t ∧ t.now = s.now + after ∧
        t.cadence.faultFlag = true ∧ t.cadence.inUse = .synthetic ∧ t.cadence.revInterval = some r ∧
        t.cadence.revTimer = some { since := t.now, ticks := r * 200 } ∧ t.cadence.startAwaited = true ∧
        t.cadence.revCount = (s.cadence.revCount + 1) % 4294967296 ∧
        t.cadence.chuffInterval = some (max 1 (r / c.chuffs)) ∧
        (let n := t.noticed (.sensor true .synthetic t.cadence.revCount)
         s.linkQuiet → t.link.onLine = some (.notice n) ∨ n ∈ t.link.notices) ∧
        s.keeps [.now, .link, .counters, .control, .cadence, .sound, .store, .smoke] t)) ∧
  -- MEASUREMENT_COMPLETE at synthetic cadence and at the sensor watch
  (∀ (after : Nat) (mv : Int) (timer : Timer) (s : State), s.mode = .run → s.bridge.awaiting = true →
    s.bridge.period = some timer → timer.since + s.tables.traction.gapUs * 2 ≤ s.now + after →
    let k := s.tables.cadence
    let c := s.cadence
    let forward := if s.motion.direction = .fwd then mv else -mv
    let emf := if s.tables.traction.gapUs = 0 then 0 else min 4095 (forward.toNat * 4095 / 28000)
    let stopped := emf = 0 ∨ emf < k.emfFloor
    let interval := max 10 (min (k.kc * 100 / emf) 65535)
    let chuff := max 1 (interval / k.chuffs)
    let watched := k.sensorMode ≠ .synthetic ∧ c.faultFlag = false ∧ k.faultEmf ≠ 0
    ∃ t, exec (.measurementComplete after mv) s = .next t ∧
      (watched → k.faultEmf ≤ emf → c.watch = none → t.cadence.watch = some t.now) ∧
      (watched → k.faultEmf ≤ emf → c.watch ≠ none → t.cadence.watch = c.watch) ∧
      ((¬watched ∨ emf < k.faultEmf) → t.cadence.watch = none) ∧
      (c.inUse = .sensor → t.cadence = { c with watch := t.cadence.watch }) ∧
      (c.inUse = .synthetic →
        (stopped → c.revInterval = none → t.cadence = { c with watch := t.cadence.watch }) ∧
        (stopped → c.revInterval ≠ none → t.cadence = { c with
          revInterval := none, chuffInterval := none, chuffsLeft := 0, chuffTimer := none, revTimer := none,
          watch := t.cadence.watch }) ∧
        (¬stopped → c.revInterval ≠ none →
          t.cadence = { c with revInterval := some interval, watch := t.cadence.watch }) ∧
        (¬stopped → c.revInterval = none →
          t.cadence = { c with
            revInterval := some interval, revTimer := some { since := t.now, ticks := interval * 200 },
            revCount := (c.revCount + 1) % 4294967296, chuffsInUse := k.chuffs, chuffInterval := some chuff,
            chuffsLeft := k.chuffs - 1,
            chuffTimer := if 1 < k.chuffs then some { since := t.now, ticks := chuff * 200 } else none,
            watch := t.cadence.watch } ∧
          (∀ n, s.control.stopSeq = .counting n → (s.motion.state = .fault ∨ t.motion.state ≠ .fault) →
            t.control.stopSeq = if 2 ≤ n then .counting (n - 1) else if t.motion.state = .idle
              then .dwell { since := t.now, ticks := s.control.dwellMs * 2000 } else .braking))))

/-! ## The mixer and the flash port -/

/-- OUTPUT_SAMPLE (R104, R105, R108, R112, R114, R115, R124, R132): the output is the sum over the voices of the sample byte
each plays by its applied gain (0 while it waits for its first line or is in underrun), by the master factor, rounded toward
minus infinity, halved while the shed level is 2 or more, saturated and counted in CLIP where it was; then every sounding voice
moves on: within its line, over a line boundary, which every jump of a loop makes (assumption 21), with its release and then
its gain, evaluated from the gain the voice has copied, a chuff's too (assumption 46), or to its end, whose CUE_DONE has cause
ENDED or RELEASED. The release and the gain come before the buffers, so a voice whose release ends at the boundary counts no
UNDERRUN (assumption 14). At a boundary the voice consumes the buffer that holds its line and prefetches into the other, or
underruns: both buffers give way to a demand refill, in the first buffer where none asks for the line (assumption 48). The
voices end in index order (assumption 14). Voice 0 ends at its last position or at the end of its release: after an ambient
loop an ambient update is made; after a scene the pending scene starts as a scene (assumption 19), or, where there is none or
it is refused, the stack is taken from its top, the scenes whose sample is busy being passed over with SAMPLE_BUSY and CUE_DONE
REFUSED on voice 0 (assumption 17), until one resumes, an ambient loop goes on or gives way, or an ambient update ends it. A
voice that ends and is not taken again has the record of a FREE voice (assumption 47). First the next position of each class of
voice, and the gain of each gain mode. -/
def Obligations.OutputSampleMixes : Prop :=
  -- where the position of a voice goes (R104), and the gain of a voice (R115)
  (∀ v : Voice,
    let on := some (v.position + 1, false)
    (v.cls ≠ .loop → v.position + 1 < v.sample.length → v.nextPosition = on) ∧
    (v.cls ≠ .loop → v.sample.length ≤ v.position + 1 → v.nextPosition = none) ∧
    (v.cls = .loop → v.sample.loop = none → v.position + 1 < v.sample.length → v.nextPosition = on) ∧
    (v.cls = .loop → v.sample.loop = none → v.sample.length ≤ v.position + 1 → v.nextPosition = some (0, true)) ∧
    (v.cls = .loop → ∀ l, v.sample.loop = some l →
      (v.position + 1 < l.stop → v.nextPosition = on) ∧
      (l.stop ≤ v.position + 1 → v.nextPosition = some (l.first, true)))) ∧
  (∀ (gain code : Nat) (band : LoadBand),
    gainOf gain .fixed code band = gain ∧ gainOf gain .speed code band = gain * (2048 + code) / 6143 ∧
    gainOf gain .load code .light = gain / 2 ∧ gainOf gain .load code .normal = gain * 3 / 4 ∧
    gainOf gain .load code .heavy = gain) ∧
  ∀ (after : Nat) (s : State), s.rested →
    let played (i : Fin 8) : Int :=
      let v := s.sound.voices[i]
      let b := s.store.buffers[i]
      if v.state = .free ∨ v.waiting = true then 0
      else match b.consuming with
        | none => 0
        | some name => match b.get name with
          | .full line data => match data[v.sample.start + v.position - line]? with
            | some byte => byte.toInt * (v.applied : Int)
            | none => 0
          | _ => 0
    let sum := ((List.finRange 8).map played).sum
    let master := if s.control.flags.mute then 0 else s.tables.masterVolume
    let whole : Int := sum * (master : Int) / 4096
    let value : Int := if 2 ≤ s.supply.shed then whole / 2 else whole
    ∃ t, exec (.outputSample after) s = .next t ∧ t.now = s.now + after ∧
      t.audio = max (-2048) (min value 2047) ∧
      t.counters.sound.clip = (if value < -2048 ∨ 2047 < value then min 65535 (s.counters.sound.clip + 1)
        else s.counters.sound.clip) ∧
      s.keeps [.now, .link, .counters, .audio, .sound, .store] t ∧
      (∀ i : Fin 8, (s.sound.voices[i].state = .free ∨ s.sound.voices[i].waiting = true) →
        t.sound.voices[i] = s.sound.voices[i]) ∧
      (∀ i : Fin 8, s.sound.voices[i].state ≠ .free → s.sound.voices[i].waiting = false →
        let v := s.sound.voices[i]
        (∀ p, v.nextPosition = some (p, false) → v.lineOf p = v.line →
          t.sound.voices[i] = { v with position := p }) ∧
        (∀ p jumped, v.nextPosition = some (p, jumped) → (jumped = true ∨ v.lineOf p ≠ v.line) →
          let m := if v.state = .releasing then v.multiplier - (512 + v.release - 1) / v.release else v.multiplier
          (m ≠ 0 → t.sound.voices[i] = { v with
            position := p, multiplier := m,
            applied := gainOf v.gain v.gainMode s.motion.demandCode s.motion.band * m / 256 }) ∧
          (m = 0 → i ≠ 0 → t.sound.voices[i] = {})) ∧
        (v.nextPosition = none → i ≠ 0 → t.sound.voices[i] = {})) ∧
      -- the buffers at a line boundary
      (let crosses (i : Fin 8) : Option Voice :=
         let v := s.sound.voices[i]
         let m := if v.state = .releasing then v.multiplier - (512 + v.release - 1) / v.release else v.multiplier
         match v.nextPosition with
         | some (p, jumped) =>
           if v.state ≠ .free ∧ v.waiting = false ∧ m ≠ 0 ∧ (jumped = true ∨ v.lineOf p ≠ v.line)
             then some { v with position := p } else none
         | none => none
       let dry (i : Fin 8) : Bool := match crosses i with
         | some w => !s.store.buffers[i].first.holds w.line && !s.store.buffers[i].second.holds w.line
         | none => false
       (s.counters.sound.underrun ≤ 65535 →
         t.counters.sound.underrun = min 65535 (s.counters.sound.underrun + (List.finRange 8).countP dry)) ∧
       (∀ i : Fin 8, ∀ w, crosses i = some w →
         let old := s.store.buffers[i]
         let new := t.store.buffers[i]
         (dry i = true → new.consuming = none ∧
           ((∀ l d a g, old.first = .fetching l d a g → l ≠ w.line) →
             (∀ l d a g, old.second = .fetching l d a g → l ≠ w.line) →
             (∃ g, new.first = .fetching w.line true t.now g) ∧ new.second = .empty)) ∧
         (∀ name : BufferName, (old.get name).holds w.line = true → (old.get name.other).holds w.line = false →
           new.consuming = some name ∧ new.get name = old.get name ∧
           (∀ next, w.nextNeeded w.line = some next → next ≠ w.line →
             ∃ g, new.get name.other = .fetching next false t.now g) ∧
           ((∀ next, w.nextNeeded w.line = some next → next = w.line) → new.get name.other = .empty)))) ∧
      -- what the sample ends: every CUE_DONE, those of voice 0 and of what its end refuses first
      (let z := s.sound.voices[(0 : Fin 8)]
       let w := t.sound.voices[(0 : Fin 8)]
       let endsAs (i : Fin 8) : Option CueEnd :=
         let v := s.sound.voices[i]
         let m := if v.state = .releasing then v.multiplier - (512 + v.release - 1) / v.release else v.multiplier
         if v.state = .free ∨ v.waiting = true then none
         else match v.nextPosition with
           | none => some .ended
           | some (p, jumped) => if (jumped = true ∨ v.lineOf p ≠ v.line) ∧ m = 0 then some .released else none
       let cueDone (v : Voice) (i : Nat) (cause : CueEnd) : List Notice := match v.host, v.content with
         | true, some (.cue n) => [.cueDone n i cause]
         | _, _ => []
       let done (i : Fin 8) : List Notice := match endsAs i with
         | some cause => cueDone s.sound.voices[i] i.val cause
         | none => []
       let sampleOf (p : PendingScene) : SampleEntry := s.tables.sampleAt (s.tables.cueAt p.cue).slot
       let refusesPending : Bool := match s.sound.pendingScene with
         | some p => decide ((sampleOf p).length = 0) || s.store.blocks (sampleOf p)
         | none => false
       let pendingBusy : Bool := match s.sound.pendingScene with
         | some p => decide ((sampleOf p).length ≠ 0) && s.store.blocks (sampleOf p)
         | none => false
       let walks : Bool := s.sound.pendingScene.isNone || refusesPending
       let refusable (c : Voice) : Bool := match c.content with
         | some (.ambient _ _) => false
         | _ => s.store.blocks c.sample
       let passed := if walks then s.sound.stack.takeWhile refusable else []
       let sceneEnds : Bool := z.isScene && (endsAs 0).isSome
       let refused : List Notice := if sceneEnds = true then
           (match s.sound.pendingScene with
             | some p => if refusesPending = true ∧ p.host = true then [.cueDone p.cue 0 .refused] else []
             | none => []) ++ passed.flatMap (fun c => cueDone c 0 .refused)
         else []
       let raised := done 0 ++ refused ++ ((List.finRange 8).filter (fun i => i != 0)).flatMap done
       (s.link.notices.length + raised.length ≤ 16 →
         t.outgoing = s.outgoing ++ raised.map (fun n => Tx.notice (t.noticed n))) ∧
       (sceneEnds = true → s.counters.sound.sampleBusy ≤ 65535 → s.counters.sound.noSample ≤ 65535 →
         t.counters.sound.sampleBusy =
           min 65535 (s.counters.sound.sampleBusy + (if pendingBusy then 1 else 0) + passed.length) ∧
         t.counters.sound.noSample = min 65535 (s.counters.sound.noSample +
           (if refusesPending && !pendingBusy then 1 else 0))) ∧
       (sceneEnds = false → t.counters.sound.sampleBusy = s.counters.sound.sampleBusy ∧
         t.counters.sound.noSample = s.counters.sound.noSample ∧ t.sound.stack = s.sound.stack ∧
         t.sound.pendingScene = s.sound.pendingScene) ∧
       -- voice 0 at its end: an ambient loop, or a scene
       (let refills := (s.mode = .config → w = {}) ∧
          (s.mode = .run → s.updatesAmbient s.supply.state s.sound.ambient s.motion {} w)
        (z.isScene = false → endsAs 0 ≠ none → refills) ∧
        (sceneEnds = true → t.sound.pendingScene = none ∧
          (∀ p, s.sound.pendingScene = some p → refusesPending = false →
            w.justStarted p.cue { s.tables.cueAt p.cue with cls := .scene } (sampleOf p) p.host s.motion ∧
              t.sound.stack = s.sound.stack) ∧
          (walks = true → s.sound.stack.dropWhile refusable = [] → t.sound.stack = [] ∧ refills) ∧
          (walks = true → ∀ saved rest, s.sound.stack.dropWhile refusable = saved :: rest → t.sound.stack = rest ∧
            ((∀ m a, saved.content ≠ some (.ambient m a)) → w = { saved with
              state := .playing, multiplier := 256, waiting := true,
              applied := gainOf saved.gain saved.gainMode s.motion.demandCode s.motion.band }) ∧
            (∀ m a, saved.content = some (.ambient m a) →
              let c := s.tables.cueAt m
              let e := s.tables.sampleAt c.slot
              let last := match e.loop with
                | some l => l.stop
                | none => e.length
              let same := s.tables.ambient.wanted s.sound.ambient = some m ∧ s.sound.ambient = a
              (s.mode = .config → w = {}) ∧ (s.mode = .run → ¬same → refills) ∧
              (s.mode = .run → same → (s.supply.state = .depleted ∨ e.length = 0 ∨ s.store.blocks e = true) → w = {}) ∧
              (s.mode = .run → same → s.supply.state ≠ .depleted → e.length ≠ 0 → s.store.blocks e = false →
                w = { state := .playing, content := some (.ambient m a), host := false, cls := .loop,
                      priority := c.priority, sample := e, gain := c.gain, gainMode := c.gainMode, release := c.release,
                      position := if saved.position < last then saved.position else 0, multiplier := 256,
                      horn := c.horn, firing := c.firing, waiting := true,
                      applied := gainOf c.gain c.gainMode s.motion.demandCode s.motion.band }))))))

/-- LINE_READ_COMPLETE (R123, R125 to R127): 20 µs after it began and not before (assumptions 2 and 3), a line goes to the
buffer that still expects it; a voice waiting for its first line, or in underrun for this one, consumes it and asks for the
next line as a prefetch in its other buffer; a line nobody expects is discarded. The port then takes the accepted store
operation, else the demand refill asked for first, the lowest voice among equals, else the prefetch of the lowest voice. A
line outside the flash, which no table entry can name, stops the model (assumption 33). The line of a position, and the next
needed line of each class of voice, are those of R121. -/
def Obligations.LineReadDelivers : Prop :=
  (∀ (after : Nat) (s : State), s.rested → (∀ v b a g, s.store.port ≠ .line v b a g) →
    ∃ t, exec (.lineReadComplete after) s = .next t ∧ t.now = s.now + after ∧ s.keeps [.now] t) ∧
  (∀ (after : Nat) (voice : Fin 8) (name : BufferName) (line begun : Nat) (s : State), s.rested →
    s.store.port = .line voice name line begun →
    let v := s.sound.voices[voice]
    let b := s.store.buffers[voice]
    let arrives (t : State) := t.now = s.now + after ∧
      t.store.buffers[voice].get name = .full line (Memory.readRange s.flash line 32)
    let prefetches (t : State) :=
      (∀ next, v.nextNeeded line = some next → next ≠ line →
        ∃ g, t.store.buffers[voice].get name.other = .fetching next false t.now g) ∧
      (v.nextNeeded line = none → b.get name.other = .empty → t.store.buffers[voice].get name.other = .empty)
    (16777216 < line + 32 → exec (.lineReadComplete after) s = .fault (.flashAddress line)) ∧
    (line + 32 ≤ 16777216 → s.now + after < begun + 40 →
      ∃ t, exec (.lineReadComplete after) s = .next t ∧ t.now = s.now + after ∧ s.keeps [.now] t) ∧
    (line + 32 ≤ 16777216 → begun + 40 ≤ s.now + after → (b.get name).expects line = true → v.waiting = true →
      ∃ t, exec (.lineReadComplete after) s = .next t ∧ arrives t ∧
        t.store.buffers[voice].consuming = some name ∧ prefetches t ∧
        t.sound = { s.sound with voices := s.sound.voices.set voice { v with waiting := false } } ∧
        s.keeps [.now, .sound, .store] t) ∧
    (line + 32 ≤ 16777216 → begun + 40 ≤ s.now + after → (b.get name).expects line = true → v.waiting = false →
      b.consuming = none → v.line = line →
      ∃ t, exec (.lineReadComplete after) s = .next t ∧ arrives t ∧
        t.store.buffers[voice].consuming = some name ∧ prefetches t ∧ s.keeps [.now, .store] t) ∧
    (line + 32 ≤ 16777216 → begun + 40 ≤ s.now + after → (b.get name).expects line = true → v.waiting = false →
      (b.consuming ≠ none ∨ v.line ≠ line) →
      ∃ t, exec (.lineReadComplete after) s = .next t ∧ arrives t ∧
        t.store.buffers[voice].consuming = b.consuming ∧ s.keeps [.now, .store] t) ∧
    (line + 32 ≤ 16777216 → begun + 40 ≤ s.now + after → (b.get name).expects line = false →
      ∃ t, exec (.lineReadComplete after) s = .next t ∧ t.now = s.now + after ∧
        (∀ (j : Fin 8) (n : BufferName) (l : Nat) (d : List Byte), s.store.buffers[j].get n = .full l d →
          t.store.buffers[j].get n = .full l d) ∧
        s.keeps [.now, .store] t)) ∧
  -- the arbiter's preference at the end of a read
  (∀ (after : Nat) (voice : Fin 8) (name : BufferName) (line begun : Nat) (s : State),
    s.store.port = .line voice name line begun → line + 32 ≤ 16777216 → begun + 40 ≤ s.now + after →
    (s.store.buffers[voice].get name).expects line = false →
    let waits (v : Fin 8) (b : BufferName) (l : Nat) (demand : Bool) (asked : Nat) :=
      s.store.buffers[v].get b = .fetching l demand asked false
    ∃ t, exec (.lineReadComplete after) s = .next t ∧
      (∀ op, s.store.op = some op → t.store.port = .store ∧ t.store.op = some { op with begun := some t.now } ∧
        t.store.buffers = s.store.buffers) ∧
      (s.store.op = none →
        (∀ v b l asked, waits v b l true asked →
          (∀ w c k other, waits w c k true other → asked ≤ other ∧ (other = asked → v ≤ w)) →
          (∀ c k other, waits v c k true other → b = .first ∨ c = b ∨ asked < other) →
          t.store.port = .line v b l t.now) ∧
        ((∀ v b l asked, ¬waits v b l true asked) →
          (∀ v b l asked, waits v b l false asked → (∀ w c k other, waits w c k false other → v ≤ w) →
            (∀ c k other, waits v c k false other → b = .first ∨ c = b) → t.store.port = .line v b l t.now) ∧
          ((∀ v b l asked, ¬waits v b l false asked) → t.store.port = .idle)))) ∧
  -- the line of a position, and the next needed line after a line (R121)
  (∀ (v : Voice) (position line : Nat),
    v.lineOf position = (v.sample.start + position) / 32 * 32 ∧
    v.line = (v.sample.start + v.position) / 32 * 32 ∧
    (let last := (v.sample.start + (v.sample.length - 1)) / 32 * 32
     (v.cls ≠ .loop → line = last → v.nextNeeded line = none) ∧
     (v.cls ≠ .loop → line ≠ last → v.nextNeeded line = some (line + 32)) ∧
     (v.cls = .loop → v.sample.loop = none → line = last →
       v.nextNeeded line = some (v.sample.start / 32 * 32)) ∧
     (v.cls = .loop → v.sample.loop = none → line ≠ last → v.nextNeeded line = some (line + 32))) ∧
    (v.cls = .loop → ∀ l, v.sample.loop = some l →
      (line = (v.sample.start + (l.stop - 1)) / 32 * 32 →
        v.nextNeeded line = some ((v.sample.start + l.first) / 32 * 32)) ∧
      (line ≠ (v.sample.start + (l.stop - 1)) / 32 * 32 → v.nextNeeded line = some (line + 32))))

/-- STORE_STATUS_POLL, STORE_READ_COMPLETE and WAITING_STATUS_POLL (R129 to R131): an erased sector reads 0xFF (the
value is assumption 7), a written page the AND of old and new, everything else as before, when the flash is ready; a
TIMEOUT after 2,000 ms, which leaves the flash alone outside the operation, the rest of a write's page included, by the
model's choice (assumption 8); a read answered with the bytes of the flash when its time has run; and a port that leaves
WAITING when the flash is ready. An event before its time, or with nothing under way, does nothing (assumptions 2 and 3). -/
def Obligations.StorePollsAndReads : Prop :=
  (∀ (after : Nat) (ready : Bool) (s : State), s.rested → s.store.port ≠ .store →
    (∃ t, exec (.storeStatusPoll after ready) s = .next t ∧ t.now = s.now + after ∧ s.keeps [.now] t) ∧
    (∃ t, exec (.storeReadComplete after) s = .next t ∧ t.now = s.now + after ∧ s.keeps [.now] t)) ∧
  (∀ (after : Nat) (op : StoreOp) (begun : Nat) (s : State), s.rested → s.flashWf → s.store.port = .store →
    s.store.op = some op → op.kind ≠ .read → op.begun = some begun →
    (∃ t, exec (.storeStatusPoll after true) s = .next t ∧ t.now = s.now + after ∧
      t.store.op = none ∧ t.store.port ≠ .store ∧ t.store.port ≠ .waiting ∧ t.flashWf ∧
      (op.kind = .erase → ∀ a, Memory.read t.flash a =
        if op.address ≤ a ∧ a < op.address + op.count then 0xFF#8 else Memory.read s.flash a) ∧
      (op.kind = .write →
        (∀ a, (a < op.address ∨ op.address + op.data.length ≤ a) → Memory.read t.flash a = Memory.read s.flash a) ∧
        (∀ (k : Nat) (b : Byte), op.data[k]? = some b →
          Memory.read t.flash (op.address + k) = Memory.read s.flash (op.address + k) &&& b)) ∧
      (s.linkQuiet → t.link.onLine = some (.notice (t.noticed (.storeDone op.kind op.address false)))) ∧
      s.keeps [.now, .link, .store, .flash] t) ∧
    (s.now + after < begun + 4000000 →
      ∃ t, exec (.storeStatusPoll after false) s = .next t ∧ t.now = s.now + after ∧ s.keeps [.now] t) ∧
    (begun + 4000000 ≤ s.now + after →
      ∃ t, exec (.storeStatusPoll after false) s = .next t ∧ t.now = s.now + after ∧
        t.store.op = none ∧ t.store.port = .waiting ∧ t.flashWf ∧
        (∀ a, (a < op.address ∨ op.address + op.count ≤ a) → Memory.read t.flash a = Memory.read s.flash a) ∧
        (s.linkQuiet → t.link.onLine = some (.notice (t.noticed (.storeDone op.kind op.address true)))) ∧
        s.keeps [.now, .link, .store, .flash, .freeCount] t)) ∧
  (∀ (after : Nat) (op : StoreOp) (begun : Nat) (v : Service) (s : State), s.rested → s.store.port = .store →
    s.store.op = some op → op.kind = .read → op.begun = some begun → s.link.inService = some v → v.stage = .working →
    s.link.waiting = none → s.link.slot = none →
    let due := begun + 20 + (op.count * 5 + 7) / 8
    let r := replyTo v.tag v.request (if op.clamped then .okClamped else .ok)
      (toBytes 3 op.address ++ toBytes 1 op.count ++ Memory.readRange s.flash op.address op.count)
    (s.now + after < due →
      ∃ t, exec (.storeReadComplete after) s = .next t ∧ t.now = s.now + after ∧ s.keeps [.now] t) ∧
    (due ≤ s.now + after →
      ∃ t, exec (.storeReadComplete after) s = .next t ∧ t.now = s.now + after ∧
        t.store.op = none ∧ t.store.port ≠ .store ∧ t.store.port ≠ .waiting ∧
        (s.link.onLine = none → t.link.onLine = some (.reply r) ∧ t.link.slot = none) ∧
        (s.link.onLine ≠ none → t.link.onLine = s.link.onLine ∧ t.link.slot = some r) ∧
        s.keeps [.now, .link, .store] t)) ∧
  (∀ (after : Nat) (ready : Bool) (s : State), s.rested →
    ((s.store.port ≠ .waiting ∨ ready = false) →
      ∃ t, exec (.waitingStatusPoll after ready) s = .next t ∧ t.now = s.now + after ∧ s.keeps [.now] t) ∧
    (s.store.port = .waiting → ready = true → s.store.op = none →
      ∃ t, exec (.waitingStatusPoll after ready) s = .next t ∧ t.now = s.now + after ∧
        t.store.port ≠ .waiting ∧ t.store.op = none ∧
        (s.store.nextRequest = none → t.store = { s.store with port := .idle }) ∧
        (∀ q, s.store.nextRequest = some q → t.store.port = .line q.voice q.buffer q.line t.now) ∧
        s.keeps [.now, .store] t))

/-! ## Smoke and lamps -/

/-- TEMPERATURE_SAMPLE, FAN_BURST_EXPIRY and smoke enable (R137 to R144): the temperature of a reading, the three faults in
their order with their notice and the heater off, the two changes of state at a sample with the fan of the new state, the
heater against the regulating target, the start and count of the rise window, and the end of a fan burst (an expiry before
its time does nothing, assumptions 2 and 3); and a SET_FUNCTION that changes smoke enable, any nonzero state byte being on
(assumption 36): the decision of the state at once, and the enable cycle that clears a latched fault below 60 °C. The time
stopped, which stays at its highest value, is that of assumption 52. -/
def Obligations.TemperatureSampleAndFanBurst : Prop :=
  (∀ (after : Nat) (reading : Int) (s : State), s.rested →
    let table := s.tables.smoke
    let temp : Option Int := if -20 ≤ reading / 1000 ∧ reading / 1000 ≤ 300 then some (reading / 1000) else none
    let detects := s.mode = .run ∧ s.control.flags.smoke = true ∧
      (s.smoke.state = .warming ∨ s.smoke.state = .ready ∨ s.smoke.state = .standby ∨ s.smoke.state = .shed)
    let latches (cause : SmokeFault) := ∃ t, exec (.temperatureSample after reading) s = .next t ∧
      t.now = s.now + after ∧
      t.smoke = { s.smoke with state := .fault, latch := some cause, offSeen := false, temperature := temp,
                               heater := false, window := none, fan := 0, burst := none } ∧
      (s.linkQuiet → t.link.onLine = some (.notice (t.noticed (.smokeFault cause temp)))) ∧
      s.keeps [.now, .link, .smoke] t
    (detects → temp = none → latches .sensor) ∧
    (∀ d, detects → temp = some d → (table.maxTemp : Int) ≤ d → latches .hot) ∧
    (∀ d w, detects → temp = some d → d < (table.maxTemp : Int) → s.smoke.window = some w → 10 ≤ w.taken + 1 →
      (table.dryRise : Int) < d - w.start → latches .dry) ∧
    ((¬detects ∨ ∃ d, temp = some d ∧ d < (table.maxTemp : Int) ∧
        ∀ w, s.smoke.window = some w → (w.taken + 1 < 10 ∨ d - w.start ≤ (table.dryRise : Int))) →
      ∃ t, exec (.temperatureSample after reading) s = .next t ∧ t.now = s.now + after ∧
        t.smoke.temperature = temp ∧ t.smoke.latch = s.smoke.latch ∧
        (s.smoke.state = .warming → (∀ d, temp = some d → (table.target : Int) - table.hysteresis ≤ d →
          t.smoke.state = .ready)) ∧
        (s.smoke.state = .warming → (∀ d, temp = some d → d < (table.target : Int) - table.hysteresis →
          t.smoke.state = .warming)) ∧
        (s.smoke.state = .ready → t.smoke.state =
          if table.idleTimeout * 1000 < s.smoke.timeStopped (s.now + after) then .standby else .ready) ∧
        (s.smoke.state ≠ .warming → s.smoke.state ≠ .ready → t.smoke.state = s.smoke.state) ∧
        (t.smoke.state.regulated = false → t.smoke.heater = false) ∧
        (t.smoke.heater = false → t.smoke.window = none) ∧
        (∀ d, temp = some d → t.smoke.state.regulated = true →
          let goal : Int := if t.smoke.state = .standby then table.standby else table.target
          (d < goal - table.hysteresis → t.smoke.heater = true) ∧
          (goal ≤ d → t.smoke.heater = false) ∧
          (goal - table.hysteresis ≤ d → d < goal → t.smoke.heater = s.smoke.heater)) ∧
        (∀ d, detects → temp = some d → t.smoke.heater = true → t.smoke.window =
          match s.smoke.window with
          | none => some { start := d, taken := 0 }
          | some w => if 10 ≤ w.taken + 1 then some { start := d, taken := 0 }
                      else some { start := w.start, taken := w.taken + 1 }) ∧
        t.smoke.burst = s.smoke.burst ∧ t.smoke.stoppedFrom = s.smoke.stoppedFrom ∧
        t.smoke.fan = (if t.smoke.state = s.smoke.state ∨ s.smoke.burst ≠ none then s.smoke.fan
          else if t.smoke.state = .ready then table.idleFan else 0) ∧
        s.keeps [.now, .smoke] t)) ∧
  (∀ (after : Nat) (s : State), s.rested → s.smoke.burst = none →
    ∃ t, exec (.fanBurstExpiry after) s = .next t ∧ t.now = s.now + after ∧ s.keeps [.now] t) ∧
  (∀ (after : Nat) (timer : Timer) (s : State), s.rested → s.smoke.burst = some timer →
    (s.now + after < timer.since + timer.ticks →
      ∃ t, exec (.fanBurstExpiry after) s = .next t ∧ t.now = s.now + after ∧ s.keeps [.now] t) ∧
    (timer.since + timer.ticks ≤ s.now + after →
      ∃ t, exec (.fanBurstExpiry after) s = .next t ∧ t.now = s.now + after ∧
        t.smoke = { s.smoke with burst := none,
                                 fan := if s.smoke.state = .ready then s.tables.smoke.idleFan else 0 } ∧
        s.keeps [.now, .smoke] t)) ∧
  -- a change of smoke enable
  (∀ (after : Nat) (tag function state : Byte) (f : Fin 32) (s : State), s.ready → s.mode = .run →
    f.val = function.toNat →
    let functions := s.control.functions.set f { on := state != 0#8, writer := .host }
    let enable := (deriveFlags functions s.tables.funcMap).smoke
    let rest (state : SmokeState) : Smoke :=
      { s.smoke with state := state, heater := false, window := none, fan := 0, burst := none }
    ∃ t, exec (.setFunction after tag function state) s = .next t ∧
      (enable = s.control.flags.smoke → t.smoke = s.smoke) ∧
      (s.smoke.latch = none → s.control.flags.smoke = true → enable = false → t.smoke = rest .off) ∧
      (s.smoke.latch = none → s.control.flags.smoke = false → enable = true →
        ((s.supply.shed ≠ 0 ∨ s.supply.state ≠ .normal) → t.smoke = rest .shed) ∧
        (s.supply.shed = 0 → s.supply.state = .normal → s.smoke.state.regulated = false →
          t.smoke.state = (if s.smoke.hotEnough s.tables.smoke then .ready else .warming) ∧
          t.smoke.heater = false ∧ t.smoke.window = none ∧
          (s.smoke.burst = none → t.smoke.fan =
            if s.smoke.hotEnough s.tables.smoke then s.tables.smoke.idleFan else 0))) ∧
      (s.smoke.latch ≠ none → s.control.flags.smoke = true → enable = false →
        t.smoke = { rest .fault with offSeen := true }) ∧
      (s.smoke.latch ≠ none → s.control.flags.smoke = false → enable = true → s.smoke.offSeen = true →
        (∀ d, s.smoke.temperature = some d → d < 60 → t.smoke.latch = none ∧ t.smoke.state ≠ .fault ∧
          t.noticed (.faultCleared .smoke) ∈ t.link.notices) ∧
        ((∀ d, s.smoke.temperature = some d → 60 ≤ d) → t.smoke = { rest .fault with offSeen := false })) ∧
      (s.smoke.latch ≠ none → s.control.flags.smoke = false → enable = true → s.smoke.offSeen = false →
        t.smoke = rest .fault))

/-- LIGHT_UPDATE (R148 to R150, R153): the update count; the flicker draws in index order at every fifth update in RUN;
the target of each channel from its mode, its request, dim and shedding; the output moved toward it by the fade without
passing it. The flicker register shifts toward its low end, takes the exclusive-or of positions 0, 2, 3 and 5 at its
high end, advances once for each FIREBOX channel, and never comes to 0. -/
def Obligations.LightUpdateMovesLamps : Prop :=
  (∀ g : BitVec 16, (∀ i : Nat, i < 15 → (flickerStep g).getLsbD i = g.getLsbD (i + 1)) ∧
    (flickerStep g).getLsbD 15 =
      Bool.xor (Bool.xor (g.getLsbD 0) (g.getLsbD 2)) (Bool.xor (g.getLsbD 3) (g.getLsbD 5)) ∧
    (g ≠ 0 → flickerStep g ≠ 0)) ∧
  (∀ (after : Nat) (s : State), s.rested →
    ∃ t, exec (.lightUpdate after) s = .next t ∧ t.now = s.now + after ∧ t.light.count = (s.light.count + 1) % 5 ∧
      s.keeps [.now, .light] t ∧
      ((s.mode = .config ∨ (s.light.count + 1) % 5 ≠ 0) → t.light.generator = s.light.generator ∧
        ∀ k : Fin 8, t.light.lamps[k].firebox = s.light.lamps[k].firebox) ∧
      (s.mode = .run → (s.light.count + 1) % 5 = 0 → t.light.generator =
        Nat.repeat flickerStep ((List.finRange 8).countP (fun j => s.tables.lights.channels[j].mode == .firebox))
          s.light.generator) ∧
      (s.mode = .run → (s.light.count + 1) % 5 = 0 → ∀ k : Fin 8,
        let e := s.tables.lights.channels[k]
        let draws := (List.finRange 8).countP
          (fun j => decide (j ≤ k) && (s.tables.lights.channels[j].mode == .firebox))
        let flicker := (Nat.repeat flickerStep draws s.light.generator).toNat
        let base := if s.sound.firingActive then 255 else e.brightness
        (e.mode = .firebox → t.light.lamps[k].firebox = base * (160 + flicker % 96) / 255) ∧
        (e.mode ≠ .firebox → t.light.lamps[k].firebox = s.light.lamps[k].firebox)) ∧
      (∀ k : Fin 8,
        let e := s.tables.lights.channels[k]
        let requested := e.bound = none ∨ (∃ f : Fin 32, e.bound = some f.val ∧ s.control.functions[f].on = true) ∨
          ∃ f : Fin 32, s.control.functions[f].on = true ∧ s.tables.funcMap[f].lights.getLsbD k.val = true
        let lit := s.mode = .run ∧ s.supply.state ≠ .depleted ∧ requested
        let scaled (level : Nat) := (if s.control.flags.dim then level / 2 else level) /
          (if 2 ≤ s.supply.shed then 4 else 1)
        let target := t.light.lamps[k].target
        (optionInRange 31 e.bound → ¬lit → target = 0) ∧
        (lit → e.mode = .steady → target = scaled e.brightness) ∧
        (lit → e.mode = .dirFwd → target = if s.motion.direction = .fwd then scaled e.brightness else 0) ∧
        (lit → e.mode = .dirRev → target = if s.motion.direction = .rev then scaled e.brightness else 0) ∧
        (lit → e.mode = .firebox → target = scaled t.light.lamps[k].firebox) ∧
        (lit → e.mode = .strobe → target = if s.light.strobeOn then scaled e.brightness else 0) ∧
        (lit → e.mode = .ditchA → (∀ n, t.light.ditch ≠ .b n) → target = scaled e.brightness) ∧
        (lit → e.mode = .ditchA → (∃ n, t.light.ditch = .b n) → target = 0) ∧
        (lit → e.mode = .ditchB → (∀ n, t.light.ditch ≠ .a n) → target = scaled e.brightness) ∧
        (lit → e.mode = .ditchB → (∃ n, t.light.ditch = .a n) → target = 0) ∧
        (e.fade = 0 → t.light.lamps[k].output = target) ∧
        (e.fade ≠ 0 → t.light.lamps[k].output =
          let stride := (2550 + e.fade - 1) / e.fade
          if s.light.lamps[k].output < target then min target (s.light.lamps[k].output + stride)
          else max target (s.light.lamps[k].output - stride))))

/-- The strobe phase (R151, R155): ON with the table's on time at the end of every reset, that of a RESTART at the end of
its OK reply (assumption 13); at its expiry, in either mode, the other phase begins with its time of the table as it then
stands; an expiry before its time does nothing (the model's choice, assumptions 2 and 3); no other command moves a running
phase, a write of the LIGHTS table included; and every STROBE channel reads the one phase. -/
def Obligations.StrobePhaseRule : Prop :=
  (∀ (after lowMv endMv : Nat) (s : State) (c : Instr),
    (c = .powerOn after ∨ c = .pinReset after ∨ (c = .brownout after lowMv endMv ∧ lowMv < 5000 ∧ 5500 ≤ endMv) ∨
      ((c = .restartTakesEffect after ∨ c = .transmitFrameEnd after) ∧ s.link.restartReply = true)) →
    ∃ t, exec c s = .next t ∧ t.light.strobeOn = true ∧
      t.light.strobe = { since := t.now, ticks := t.tables.lights.strobeOn * 2000 }) ∧
  (∀ (after : Nat) (s : State), s.rested →
    (s.light.strobe.since + s.light.strobe.ticks ≤ s.now + after →
      ∃ t, exec (.strobePhaseExpiry after) s = .next t ∧ t.now = s.now + after ∧
        t.light = { s.light with
          strobeOn := !s.light.strobeOn,
          strobe := { since := t.now, ticks := (if s.light.strobeOn then s.tables.lights.strobeOff
                                                else s.tables.lights.strobeOn) * 2000 } } ∧
        s.keeps [.now, .light] t) ∧
    (s.now + after < s.light.strobe.since + s.light.strobe.ticks →
      ∃ t, exec (.strobePhaseExpiry after) s = .next t ∧ t.now = s.now + after ∧ s.keeps [.now] t)) ∧
  (∀ (c : Instr) (s t : State), exec c s = .next t → (∀ after, c ≠ .strobePhaseExpiry after) →
    (t.light.strobeOn = s.light.strobeOn ∧ t.light.strobe = s.light.strobe) ∨
    (t.now = 0 ∧ t.light.strobeOn = true ∧
      t.light.strobe = { since := 0, ticks := t.tables.lights.strobeOn * 2000 })) ∧
  (∀ (after : Nat) (s : State), s.mode = .run → s.supply.state ≠ .depleted →
    ∃ t, exec (.lightUpdate after) s = .next t ∧
      ∀ k : Fin 8, s.tables.lights.channels[k].mode = .strobe → s.lampRequested k = true →
        t.light.lamps[k].target = if s.light.strobeOn
          then scaleLevel s.tables.lights.channels[k].brightness s.control.flags.dim s.supply.shed else 0)

/-- The ditch phase (R152): STEADY without HORN; from STEADY to A with 25 updates; one update fewer at each, and at 0 the
other of A and B with 25; so each alternation lasts 25 light updates, and a channel of DITCH_A is the one lit first. In
CONFIG the phase stays STEADY, whatever the command. -/
def Obligations.DitchPhaseRule : Prop :=
  (∀ (after : Nat) (s : State), s.mode = .run →
    let horn := ∃ i : Fin 8, s.sound.voices[i].state ≠ .free ∧ s.sound.voices[i].horn = true
    ∃ t, exec (.lightUpdate after) s = .next t ∧
      (¬horn → t.light.ditch = .steady) ∧
      (horn → s.light.ditch = .steady → t.light.ditch = .a 25 ∧
        ∀ k : Fin 8, s.supply.state ≠ .depleted → s.lampRequested k = true →
          (s.tables.lights.channels[k].mode = .ditchA → t.light.lamps[k].target =
            scaleLevel s.tables.lights.channels[k].brightness s.control.flags.dim s.supply.shed) ∧
          (s.tables.lights.channels[k].mode = .ditchB → t.light.lamps[k].target = 0)) ∧
      (horn → ∀ n, 1 ≤ n → s.light.ditch = .a n → t.light.ditch = if n = 1 then .b 25 else .a (n - 1)) ∧
      (horn → ∀ n, 1 ≤ n → s.light.ditch = .b n → t.light.ditch = if n = 1 then .a 25 else .b (n - 1))) ∧
  (∀ (after n : Nat) (s : State), s.mode = .run → s.sound.hornActive = true → 1 ≤ n → n ≤ 25 →
    ∃ t, runAll (List.replicate n (.lightUpdate after)) s = .next t ∧
      (s.light.ditch = .a 25 → t.light.ditch = if n = 25 then .b 25 else .a (25 - n)) ∧
      (s.light.ditch = .b 25 → t.light.ditch = if n = 25 then .a 25 else .b (25 - n))) ∧
  (∀ (c : Instr) (s t : State), (s.mode = .config → s.light.ditch = .steady) → exec c s = .next t →
    t.mode = .config → t.light.ditch = .steady)

/-! ## The supply -/

/-- SUPPLY_SAMPLE (R157 to R161): the three readings; the low run and the entry to RIDE_THROUGH; recovery, the ride limit and
the rail minimum in RIDE_THROUGH; depletion, which stills the motor, cuts every voice and puts out every lamp; the return
after 50 samples; the shed counting in RUN, whose floor is 2 outside NORMAL, also at the sample that changes the supply
state, which leaves both runs at 0 (assumption 29); one SUPPLY notice for each sample that changes the state or the level,
the last of the queue, with the cause of the state where both changed (R166); and the smoke unit, which every shed level
above 0 and every state but NORMAL sheds at once, and which returns when level 0 does (R138). Depletion sends CUE_DONE with
cause CUT for every cut voice and discarded context of origin HOST, in the order of R117, a pending scene and a saved context
by the name of voice 0 (assumption 17), and coasts the bridge; at DROPOUT and at RECOVERED a bridge that stands as R26 asks
is left as it is, and so is one that COAST holds after a trip where there is no gap (assumption 57), and out of DEPLETED it
takes the rest mode. The STOP_SEQUENCE notice of a stop that forced IDLE takes to DWELL goes before the CUE_DONEs, and the
SUPPLY notice last (assumption 14). Depletion leaves every voice with the record of a FREE voice (assumption 47). -/
def Obligations.SupplySampleActs : Prop :=
  ∀ (after : Nat) (mv : Int) (railMv microamps : Nat) (s : State), s.rested →
    let u := s.supply
    let table := s.tables.supply
    let track := min 400 (mv.natAbs / 100)
    let rail := min 400 (railMv / 100)
    let current := min 20000 (microamps / 1000)
    let readings (t : State) := t.now = s.now + after ∧ t.supply.track = track ∧ t.supply.rail = rail ∧
      t.supply.current = current
    let supplyNotice (t : State) (cause : SupplyCause) := t.lastNotice
      (.supply t.supply.state t.supply.shed t.supply.cap track rail current cause)
    let shedOn (level floor : Nat) : Nat :=
      if table.budget < current then (if 20 ≤ u.overRun + 1 ∧ level < 3 then level + 1 else level)
      else if current * 4 < table.budget * 3 ∧ 500 ≤ u.underRun + 1 ∧ floor < level then level - 1 else level
    -- the bridge as R26 asks for it, outside DEPLETED
    let b := s.bridge
    let stands := match s.motion.state with
      | .run => b.state = .tripped ∨ b.tripHere = false
      | .reversing => b.state = .tripped ∨ b.tripHere = false
      | .estop => b.state = .brake
      | .fault => b.state = .coast
      | .idle => b.state = if b.rest = .coast then .coast else .brake
    let goesOn (t : State) := (b.state = .off ∨ b.state = .gap ∨ stands) → t.bridge = b
    let entersNormal := ∃ t, exec (.supplySample after mv railMv microamps) s = .next t ∧ readings t ∧
      goesOn t ∧
      (u.state = .depleted → s.motion.state = .idle → b.rest = .brake → b.state = .coast →
        t.bridge.state = .brake ∧ t.bridge.active = b.active ∧ t.bridge.pendingLevel = b.pendingLevel ∧
        s.legsFollow t .brake b.direction 0) ∧
      (s.mode = .run → t.supply.shed = shedOn u.shed 0) ∧ (s.link.notices.length < 16 → supplyNotice t .recovered) ∧
      (u.state = .rideThrough → t.sound = s.sound) ∧
      (u.state = .depleted → s.mode = .run → s.updatesAmbient .normal s.sound.ambient s.motion
        s.sound.voices[(0 : Fin 8)] t.sound.voices[(0 : Fin 8)]) ∧
      t.supply.state = .normal ∧ t.supply.cap = none ∧ t.control.supplyCap = none ∧
      t.control.effective = t.control.effectiveThrottle ∧
      (s.mode = .run → t.supply.overRun = 0 ∧ t.supply.underRun = 0) ∧
      (s.mode = .config → t.supply.shed = u.shed) ∧
      s.keeps [.now, .link, .counters, .control, .bridge, .sound, .store, .smoke, .supply] t
    -- what is cut at depletion, and the CUE_DONE notices of the host's cues in it
    let n := s.sound
    let cueDone (v : Voice) (i : Nat) : List Notice := match v.host, v.content with
      | true, some (.cue m) => [.cueDone m i .cut]
      | _, _ => []
    let cuts : List Notice :=
      (List.finRange 8).flatMap (fun i => if n.voices[i].state = .free then [] else cueDone n.voices[i] i.val) ++
      (match n.pendingScene with
        | some p => if p.host = true then [.cueDone p.cue 0 .cut] else []
        | none => []) ++
      n.stack.flatMap (fun v => cueDone v 0)
    let stopped : List Notice :=
      if s.control.stopSeq = .braking ∧ (s.motion.state = .run ∨ s.motion.state = .reversing)
      then [.stopSequence { code := 3, value := s.control.dwellMs } s.control.resume none] else []
    let entersDepleted := ∃ t, exec (.supplySample after mv railMv microamps) s = .next t ∧ readings t ∧
      t.supply.state = .depleted ∧ t.supply.recoveryRun = 0 ∧ t.supply.cap = some 0 ∧
      (s.mode = .run → t.supply.shed = shedOn u.shed 2 ∧ t.supply.overRun = 0 ∧ t.supply.underRun = 0) ∧
      (s.mode = .config → t.supply.shed = u.shed) ∧
      (t.link.lost = false → supplyNotice t
        (if table.rideLimit ≤ min 5000 (u.elapsed + 1) then .rideLimit else .railLow)) ∧
      t.control.supplyCap = some 0 ∧ t.control.effective = 0 ∧
      t.counters.supply = { s.counters.supply with depletions := min 65535 (s.counters.supply.depletions + 1) } ∧
      (s.motion.state.regulating = true →
        t.motion = { s.motion with state := .idle, target := 0, demand := 0, integral := 0, drive := 0,
                                   band := .normal, falling := false, stallRun := 0 } ∧
        t.bridge.active = 0 ∧ t.bridge.pendingLevel = 0 ∧
        t.bridge.state = (if b.state = .off ∨ b.state = .gap then b.state else .coast)) ∧
      (s.motion.state.regulating = false → t.motion = s.motion ∧ t.bridge = b) ∧
      (s.link.notices.length + stopped.length + cuts.length < 16 →
        t.outgoing = s.outgoing ++ (stopped ++ cuts ++
          [Notice.supply .depleted t.supply.shed (some 0) track rail current
            (if table.rideLimit ≤ min 5000 (u.elapsed + 1) then .rideLimit else .railLow)]).map
          (fun n => Tx.notice (t.noticed n))) ∧
      (∀ i : Fin 8, t.sound.voices[i] = {}) ∧ t.sound.order = [] ∧ t.sound.stack = [] ∧
      t.sound.pendingScene = none ∧
      (∀ k : Fin 8, t.light.lamps[k] = { s.light.lamps[k] with output := 0, target := 0 }) ∧
      s.keeps [.now, .link, .counters, .control, .motion, .bridge, .sound, .store, .smoke, .light, .supply] t
    let counted (n : Supply) := ∃ t, exec (.supplySample after mv railMv microamps) s = .next t ∧
      t.now = s.now + after ∧ t.supply = { n with track := track, rail := rail, current := current } ∧
      (n.shed = u.shed → t.link = s.link) ∧
      (s.link.notices.length < 16 → u.shed < n.shed → supplyNotice t .levelUp) ∧
      (s.link.notices.length < 16 → n.shed < u.shed → supplyNotice t .levelDown) ∧
      s.keeps [.now, .link, .smoke, .supply] t
    (s.mode = .config → u.state = .normal → table.rideThreshold ≤ track → counted { u with lowRun := 0 }) ∧
    (s.mode = .config → u.state = .normal → track < table.rideThreshold → u.lowRun = 0 →
      counted { u with lowRun := 1 }) ∧
    (u.state = .normal → track < table.rideThreshold → 1 ≤ u.lowRun →
      ∃ t, exec (.supplySample after mv railMv microamps) s = .next t ∧ readings t ∧
        t.supply.state = .rideThrough ∧ t.supply.lowRun = 0 ∧ t.supply.elapsed = 0 ∧
        t.supply.cap = some s.control.effective ∧ t.control.supplyCap = some s.control.effective ∧
        t.control.effective ≤ s.control.effective ∧
        t.counters.supply = { s.counters.supply with
          rideThroughs := min 65535 (s.counters.supply.rideThroughs + 1) } ∧
        (s.mode = .run → 2 ≤ t.supply.shed ∧ t.supply.overRun = 0 ∧ t.supply.underRun = 0) ∧
        (s.mode = .run → t.supply.shed = shedOn (max 2 u.shed) 2) ∧
        (s.mode = .config → t.supply.shed = u.shed) ∧ goesOn t ∧
        (s.link.notices.length < 16 → supplyNotice t .dropout) ∧
        (s.linkQuiet → t.link.onLine = some (.notice (t.noticed (.supply .rideThrough t.supply.shed
          (some s.control.effective) track rail current .dropout)))) ∧
        s.keeps [.now, .link, .counters, .control, .bridge, .smoke, .supply] t) ∧
    (u.state = .rideThrough → table.rideThreshold + 10 ≤ track → entersNormal) ∧
    (u.state = .rideThrough → track < table.rideThreshold + 10 →
      (table.rideLimit ≤ min 5000 (u.elapsed + 1) ∨ rail < table.railMinimum) → entersDepleted) ∧
    (s.mode = .config → u.state = .rideThrough → track < table.rideThreshold + 10 →
      min 5000 (u.elapsed + 1) < table.rideLimit → table.railMinimum ≤ rail →
      counted { u with elapsed := min 5000 (u.elapsed + 1) }) ∧
    (u.state = .depleted → table.rideThreshold + 10 ≤ track → 49 ≤ u.recoveryRun → entersNormal) ∧
    (s.mode = .config → u.state = .depleted → table.rideThreshold + 10 ≤ track → u.recoveryRun < 49 →
      counted { u with recoveryRun := u.recoveryRun + 1 }) ∧
    (s.mode = .config → u.state = .depleted → track < table.rideThreshold + 10 → counted { u with recoveryRun := 0 }) ∧
    (s.mode = .run → u.state = .normal → table.rideThreshold ≤ track →
      (table.budget < current → u.overRun + 1 < 20 →
        counted { u with lowRun := 0, overRun := u.overRun + 1, underRun := 0 }) ∧
      (table.budget < current → 20 ≤ u.overRun + 1 → u.shed ≤ 3 →
        counted { u with lowRun := 0, overRun := 0, underRun := 0, shed := min 3 (u.shed + 1) }) ∧
      (current ≤ table.budget → current * 4 < table.budget * 3 → u.underRun + 1 < 500 →
        counted { u with lowRun := 0, overRun := 0, underRun := u.underRun + 1 }) ∧
      (current ≤ table.budget → current * 4 < table.budget * 3 → 500 ≤ u.underRun + 1 →
        counted { u with lowRun := 0, overRun := 0, underRun := 0, shed := u.shed - 1 }) ∧
      (current ≤ table.budget → table.budget * 3 ≤ current * 4 →
        counted { u with lowRun := 0, overRun := 0, underRun := 0 })) ∧
    -- the shed counting of a sample in RUN that leaves the supply state as it is
    (s.mode = .run →
      let shedCounts (b : Supply) (floor : Nat) :=
        (table.budget < current → u.overRun + 1 < 20 → counted { b with overRun := u.overRun + 1, underRun := 0 }) ∧
        (table.budget < current → 20 ≤ u.overRun + 1 → u.shed ≤ 3 →
          counted { b with overRun := 0, underRun := 0, shed := min 3 (u.shed + 1) }) ∧
        (current ≤ table.budget → current * 4 < table.budget * 3 → u.underRun + 1 < 500 →
          counted { b with overRun := 0, underRun := u.underRun + 1 }) ∧
        (current ≤ table.budget → current * 4 < table.budget * 3 → 500 ≤ u.underRun + 1 →
          counted { b with overRun := 0, underRun := 0, shed := if floor < u.shed then u.shed - 1 else u.shed }) ∧
        (current ≤ table.budget → table.budget * 3 ≤ current * 4 → counted { b with overRun := 0, underRun := 0 })
      (u.state = .normal → track < table.rideThreshold → u.lowRun = 0 → shedCounts { u with lowRun := 1 } 0) ∧
      (u.state = .rideThrough → track < table.rideThreshold + 10 → min 5000 (u.elapsed + 1) < table.rideLimit →
        table.railMinimum ≤ rail → shedCounts { u with elapsed := min 5000 (u.elapsed + 1) } 2) ∧
      (u.state = .depleted → table.rideThreshold + 10 ≤ track → u.recoveryRun < 49 →
        shedCounts { u with recoveryRun := u.recoveryRun + 1 } 2) ∧
      (u.state = .depleted → track < table.rideThreshold + 10 → shedCounts { u with recoveryRun := 0 } 2)) ∧
    -- the smoke unit after a sample in RUN
    (s.mode = .run → ∃ t, exec (.supplySample after mv railMv microamps) s = .next t ∧
      (s.smoke.latch = none → s.control.flags.smoke = true →
        ((t.supply.shed ≠ 0 ∨ t.supply.state ≠ .normal) → t.smoke = { s.smoke with
          state := .shed, heater := false, window := none, fan := 0, burst := none,
          stoppedFrom := t.smoke.stoppedFrom }) ∧
        (t.supply.shed = 0 → t.supply.state = .normal → s.smoke.state = .shed →
          t.smoke.state = (if s.smoke.hotEnough s.tables.smoke then .ready else .warming) ∧
          t.smoke.heater = false ∧ t.smoke.window = none)))

/-! ## Invariants that every step keeps -/

/-- The invariants hold after power-on: the flash's canonical form, the link and the port at rest, the switches of each
leg exclusive, the mirrored fields, the figure of R77, the ranges of the tables, the capacities of the queues, the sample
interlock and the heater's conditions. -/
def Obligations.ResetMeetsInvariants : Prop :=
  State.reset.flashWf ∧ State.reset.rested ∧ State.reset.legsExclusive ∧ State.reset.mirrored ∧
  State.reset.effectiveR77 ∧ State.reset.tables.inRange ∧ State.reset.withinCapacity ∧ State.reset.interlocked ∧
  State.reset.heaterSafe

/-- Every step from a rested part leaves it rested (R127, R168, R169): no reply, notice or request is left waiting for
something that is free. -/
def Obligations.PartComesToRest : Prop := ∀ s t : State, s.rested → step s = .next t → t.rested

/-- The high side and the low side of a leg are never on together, whatever the command (R35). -/
def Obligations.LegsNeverShootThrough : Prop := ∀ s t : State, s.legsExclusive → step s = .next t → t.legsExclusive

/-- Every step keeps the supply cap and the budget ceiling mirrored where they are read (R76, R156, R163), and the
effective throttle at the figure of R77: 0 with the estop latch set, in BRAKING and in DWELL, and otherwise the least of the
base, every zone cap and the supply cap, where the base is the throttle, or with no source the held throttle or 0, halved
while shunting is active. -/
def Obligations.MirrorsAndThrottleAreKept : Prop :=
  (∀ s t : State, s.mirrored → s.effectiveR77 → step s = .next t → t.mirrored ∧ t.effectiveR77) ∧
  -- the figure of R77
  (∀ c : Control,
    let taken := if c.source = .none then c.held.getD 0 else c.throttle
    let base := if c.flags.shunting = true then taken / 2 else taken
    let figure := c.effectiveThrottle
    ((c.estop = true ∨ c.stopSeq = .braking ∨ ∃ timer, c.stopSeq = .dwell timer) → figure = 0) ∧
    (c.estop = false → (c.stopSeq = .none ∨ ∃ n, c.stopSeq = .counting n) →
      figure ≤ base ∧ (∀ z ∈ c.caps, figure ≤ z.cap) ∧ (∀ cap, c.supplyCap = some cap → figure ≤ cap) ∧
      (figure = base ∨ (∃ z ∈ c.caps, figure = z.cap) ∨ c.supplyCap = some figure)))

/-- Every step keeps every table in its ranges, whatever bytes a write carries (R23, R55, R71, R90, R95, R98, R109,
R111, R120, R145, R154, R165, R171). -/
def Obligations.TablesStayInRange : Prop := ∀ s t : State, s.tables.inRange → step s = .next t → t.tables.inRange

/-- Every step keeps the flash in its canonical form, and no queue ever exceeds its capacity: 16 notices, 8 packets, 4
contexts, 4 zone caps (R68, R92, R113, R169). -/
def Obligations.ContainersStayWellFormed : Prop :=
  (∀ s t : State, s.flashWf → step s = .next t → t.flashWf) ∧
  (∀ s t : State, s.withinCapacity → step s = .next t → t.withinCapacity)

/-- The sample interlock (R128): no step brings an erase or write in flight and a playing voice onto the same bytes. -/
def Obligations.SampleInterlockIsKept : Prop := ∀ s t : State, s.interlocked → step s = .next t → t.interlocked

/-- The smoke heater is energised only where R139 allows it, whatever the command (R138, R139). -/
def Obligations.HeaterStaysSafe : Prop := ∀ s t : State, s.heaterSafe → step s = .next t → t.heaterSafe
end

