-- ==== Sys2Proof/Laws/Keeps.lean ====
section
/-! SUPPORT. What each operation leaves alone: for every operation of the part, one lemma that names the parts of the
state it can change. Each lemma is a rewriting rule: where those parts are among the excepted ones, the state after the
operation agrees with a state exactly where the state before it does. -/

namespace Sys2Proof.Machine

/-! ## The frame relation -/

/-- A state keeps every part of itself. -/
@[simp] theorem keeps_refl (c : List Part) (s : State) : s.keeps c s := by
  refine ⟨?_, ?_, ?_, ?_, ?_, ?_, ?_, ?_, ?_, ?_, ?_, ?_, ?_, ?_, ?_, ?_, ?_, ?_, ?_, ?_⟩ <;> exact Or.inr rfl

/-- One part through two events. -/
theorem kept_trans {α : Type} {p : Prop} {x y z : α} (h : p ∨ y = x) (k : p ∨ z = y) : p ∨ z = x := by
  rcases h with h | h
  · exact Or.inl h
  · rcases k with k | k
    · exact Or.inl k
    · exact Or.inr (k.trans h)

/-- Two events that keep the same parts keep them together. -/
theorem keeps_trans {c : List Part} {s t u : State} (h : s.keeps c t) (k : t.keeps c u) : s.keeps c u := by
  obtain ⟨h1, h2, h3, h4, h5, h6, h7, h8, h9, h10, h11, h12, h13, h14, h15, h16, h17, h18, h19, h20⟩ := h
  obtain ⟨k1, k2, k3, k4, k5, k6, k7, k8, k9, k10, k11, k12, k13, k14, k15, k16, k17, k18, k19, k20⟩ := k
  exact ⟨kept_trans h1 k1, kept_trans h2 k2, kept_trans h3 k3, kept_trans h4 k4, kept_trans h5 k5, kept_trans h6 k6,
    kept_trans h7 k7, kept_trans h8 k8, kept_trans h9 k9, kept_trans h10 k10, kept_trans h11 k11, kept_trans h12 k12,
    kept_trans h13 k13, kept_trans h14 k14, kept_trans h15 k15, kept_trans h16 k16, kept_trans h17 k17,
    kept_trans h18 k18, kept_trans h19 k19, kept_trans h20 k20⟩

/-- What is kept in one direction is kept in the other. -/
theorem keeps_symm {c : List Part} {s t : State} (h : s.keeps c t) : t.keeps c s := by
  obtain ⟨h1, h2, h3, h4, h5, h6, h7, h8, h9, h10, h11, h12, h13, h14, h15, h16, h17, h18, h19, h20⟩ := h
  exact ⟨h1.imp_right Eq.symm, h2.imp_right Eq.symm, h3.imp_right Eq.symm, h4.imp_right Eq.symm,
    h5.imp_right Eq.symm, h6.imp_right Eq.symm, h7.imp_right Eq.symm, h8.imp_right Eq.symm, h9.imp_right Eq.symm,
    h10.imp_right Eq.symm, h11.imp_right Eq.symm, h12.imp_right Eq.symm, h13.imp_right Eq.symm,
    h14.imp_right Eq.symm, h15.imp_right Eq.symm, h16.imp_right Eq.symm, h17.imp_right Eq.symm,
    h18.imp_right Eq.symm, h19.imp_right Eq.symm, h20.imp_right Eq.symm⟩

/-- A longer list of excepted parts asks less. -/
theorem keeps_mono {c d : List Part} {s t : State} (h : s.keeps d t) (hd : d ⊆ c) : s.keeps c t := by
  obtain ⟨h1, h2, h3, h4, h5, h6, h7, h8, h9, h10, h11, h12, h13, h14, h15, h16, h17, h18, h19, h20⟩ := h
  exact ⟨h1.imp_left (@hd _), h2.imp_left (@hd _), h3.imp_left (@hd _), h4.imp_left (@hd _), h5.imp_left (@hd _),
    h6.imp_left (@hd _), h7.imp_left (@hd _), h8.imp_left (@hd _), h9.imp_left (@hd _), h10.imp_left (@hd _),
    h11.imp_left (@hd _), h12.imp_left (@hd _), h13.imp_left (@hd _), h14.imp_left (@hd _), h15.imp_left (@hd _),
    h16.imp_left (@hd _), h17.imp_left (@hd _), h18.imp_left (@hd _),
    h19.imp_left (@hd _), h20.imp_left (@hd _)⟩

/-- An event that changes only excepted parts does not matter to the relation. -/
theorem keeps_congr {c d : List Part} {s t u : State} (h : t.keeps d u) (hd : d ⊆ c) :
    s.keeps c u ↔ s.keeps c t :=
  ⟨fun k => keeps_trans k (keeps_symm (keeps_mono h hd)), fun k => keeps_trans k (keeps_mono h hd)⟩

/-! ## Record updates -/

@[simp] theorem update_now_keeps {c : List Part} (s t : State) (x : Nat) (h : Part.now ∈ c) :
    s.keeps c { t with now := x } ↔ s.keeps c t := by
  refine keeps_congr (d := [.now]) ?_ (by simpa using h)
  refine ⟨?_, ?_, ?_, ?_, ?_, ?_, ?_, ?_, ?_, ?_, ?_, ?_, ?_, ?_, ?_, ?_, ?_, ?_, ?_, ?_⟩ <;>
    first | exact Or.inr rfl | exact Or.inl (by decide)

@[simp] theorem update_mode_keeps {c : List Part} (s t : State) (x : Mode) (h : Part.mode ∈ c) :
    s.keeps c { t with mode := x } ↔ s.keeps c t := by
  refine keeps_congr (d := [.mode]) ?_ (by simpa using h)
  refine ⟨?_, ?_, ?_, ?_, ?_, ?_, ?_, ?_, ?_, ?_, ?_, ?_, ?_, ?_, ?_, ?_, ?_, ?_, ?_, ?_⟩ <;>
    first | exact Or.inr rfl | exact Or.inl (by decide)

@[simp] theorem update_cause_keeps {c : List Part} (s t : State) (x : ResetCause) (h : Part.cause ∈ c) :
    s.keeps c { t with cause := x } ↔ s.keeps c t := by
  refine keeps_congr (d := [.cause]) ?_ (by simpa using h)
  refine ⟨?_, ?_, ?_, ?_, ?_, ?_, ?_, ?_, ?_, ?_, ?_, ?_, ?_, ?_, ?_, ?_, ?_, ?_, ?_, ?_⟩ <;>
    first | exact Or.inr rfl | exact Or.inl (by decide)

@[simp] theorem update_tables_keeps {c : List Part} (s t : State) (x : Tables) (h : Part.tables ∈ c) :
    s.keeps c { t with tables := x } ↔ s.keeps c t := by
  refine keeps_congr (d := [.tables]) ?_ (by simpa using h)
  refine ⟨?_, ?_, ?_, ?_, ?_, ?_, ?_, ?_, ?_, ?_, ?_, ?_, ?_, ?_, ?_, ?_, ?_, ?_, ?_, ?_⟩ <;>
    first | exact Or.inr rfl | exact Or.inl (by decide)

@[simp] theorem update_counters_keeps {c : List Part} (s t : State) (x : Counters) (h : Part.counters ∈ c) :
    s.keeps c { t with counters := x } ↔ s.keeps c t := by
  refine keeps_congr (d := [.counters]) ?_ (by simpa using h)
  refine ⟨?_, ?_, ?_, ?_, ?_, ?_, ?_, ?_, ?_, ?_, ?_, ?_, ?_, ?_, ?_, ?_, ?_, ?_, ?_, ?_⟩ <;>
    first | exact Or.inr rfl | exact Or.inl (by decide)

@[simp] theorem update_link_keeps {c : List Part} (s t : State) (x : Link) (h : Part.link ∈ c) :
    s.keeps c { t with link := x } ↔ s.keeps c t := by
  refine keeps_congr (d := [.link]) ?_ (by simpa using h)
  refine ⟨?_, ?_, ?_, ?_, ?_, ?_, ?_, ?_, ?_, ?_, ?_, ?_, ?_, ?_, ?_, ?_, ?_, ?_, ?_, ?_⟩ <;>
    first | exact Or.inr rfl | exact Or.inl (by decide)

@[simp] theorem update_radio_keeps {c : List Part} (s t : State) (x : Radio) (h : Part.radio ∈ c) :
    s.keeps c { t with radio := x } ↔ s.keeps c t := by
  refine keeps_congr (d := [.radio]) ?_ (by simpa using h)
  refine ⟨?_, ?_, ?_, ?_, ?_, ?_, ?_, ?_, ?_, ?_, ?_, ?_, ?_, ?_, ?_, ?_, ?_, ?_, ?_, ?_⟩ <;>
    first | exact Or.inr rfl | exact Or.inl (by decide)

@[simp] theorem update_control_keeps {c : List Part} (s t : State) (x : Control) (h : Part.control ∈ c) :
    s.keeps c { t with control := x } ↔ s.keeps c t := by
  refine keeps_congr (d := [.control]) ?_ (by simpa using h)
  refine ⟨?_, ?_, ?_, ?_, ?_, ?_, ?_, ?_, ?_, ?_, ?_, ?_, ?_, ?_, ?_, ?_, ?_, ?_, ?_, ?_⟩ <;>
    first | exact Or.inr rfl | exact Or.inl (by decide)

@[simp] theorem update_motion_keeps {c : List Part} (s t : State) (x : Motion) (h : Part.motion ∈ c) :
    s.keeps c { t with motion := x } ↔ s.keeps c t := by
  refine keeps_congr (d := [.motion]) ?_ (by simpa using h)
  refine ⟨?_, ?_, ?_, ?_, ?_, ?_, ?_, ?_, ?_, ?_, ?_, ?_, ?_, ?_, ?_, ?_, ?_, ?_, ?_, ?_⟩ <;>
    first | exact Or.inr rfl | exact Or.inl (by decide)

@[simp] theorem update_bridge_keeps {c : List Part} (s t : State) (x : Bridge) (h : Part.bridge ∈ c) :
    s.keeps c { t with bridge := x } ↔ s.keeps c t := by
  refine keeps_congr (d := [.bridge]) ?_ (by simpa using h)
  refine ⟨?_, ?_, ?_, ?_, ?_, ?_, ?_, ?_, ?_, ?_, ?_, ?_, ?_, ?_, ?_, ?_, ?_, ?_, ?_, ?_⟩ <;>
    first | exact Or.inr rfl | exact Or.inl (by decide)

@[simp] theorem update_cadence_keeps {c : List Part} (s t : State) (x : Cadence) (h : Part.cadence ∈ c) :
    s.keeps c { t with cadence := x } ↔ s.keeps c t := by
  refine keeps_congr (d := [.cadence]) ?_ (by simpa using h)
  refine ⟨?_, ?_, ?_, ?_, ?_, ?_, ?_, ?_, ?_, ?_, ?_, ?_, ?_, ?_, ?_, ?_, ?_, ?_, ?_, ?_⟩ <;>
    first | exact Or.inr rfl | exact Or.inl (by decide)

@[simp] theorem update_sound_keeps {c : List Part} (s t : State) (x : Sound) (h : Part.sound ∈ c) :
    s.keeps c { t with sound := x } ↔ s.keeps c t := by
  refine keeps_congr (d := [.sound]) ?_ (by simpa using h)
  refine ⟨?_, ?_, ?_, ?_, ?_, ?_, ?_, ?_, ?_, ?_, ?_, ?_, ?_, ?_, ?_, ?_, ?_, ?_, ?_, ?_⟩ <;>
    first | exact Or.inr rfl | exact Or.inl (by decide)

@[simp] theorem update_store_keeps {c : List Part} (s t : State) (x : Store) (h : Part.store ∈ c) :
    s.keeps c { t with store := x } ↔ s.keeps c t := by
  refine keeps_congr (d := [.store]) ?_ (by simpa using h)
  refine ⟨?_, ?_, ?_, ?_, ?_, ?_, ?_, ?_, ?_, ?_, ?_, ?_, ?_, ?_, ?_, ?_, ?_, ?_, ?_, ?_⟩ <;>
    first | exact Or.inr rfl | exact Or.inl (by decide)

@[simp] theorem update_flash_keeps {c : List Part} (s t : State) (x : List Host.Cell) (h : Part.flash ∈ c) :
    s.keeps c { t with flash := x } ↔ s.keeps c t := by
  refine keeps_congr (d := [.flash]) ?_ (by simpa using h)
  refine ⟨?_, ?_, ?_, ?_, ?_, ?_, ?_, ?_, ?_, ?_, ?_, ?_, ?_, ?_, ?_, ?_, ?_, ?_, ?_, ?_⟩ <;>
    first | exact Or.inr rfl | exact Or.inl (by decide)

@[simp] theorem update_audio_keeps {c : List Part} (s t : State) (x : Int) (h : Part.audio ∈ c) :
    s.keeps c { t with audio := x } ↔ s.keeps c t := by
  refine keeps_congr (d := [.audio]) ?_ (by simpa using h)
  refine ⟨?_, ?_, ?_, ?_, ?_, ?_, ?_, ?_, ?_, ?_, ?_, ?_, ?_, ?_, ?_, ?_, ?_, ?_, ?_, ?_⟩ <;>
    first | exact Or.inr rfl | exact Or.inl (by decide)

@[simp] theorem update_smoke_keeps {c : List Part} (s t : State) (x : Smoke) (h : Part.smoke ∈ c) :
    s.keeps c { t with smoke := x } ↔ s.keeps c t := by
  refine keeps_congr (d := [.smoke]) ?_ (by simpa using h)
  refine ⟨?_, ?_, ?_, ?_, ?_, ?_, ?_, ?_, ?_, ?_, ?_, ?_, ?_, ?_, ?_, ?_, ?_, ?_, ?_, ?_⟩ <;>
    first | exact Or.inr rfl | exact Or.inl (by decide)

@[simp] theorem update_light_keeps {c : List Part} (s t : State) (x : Light) (h : Part.light ∈ c) :
    s.keeps c { t with light := x } ↔ s.keeps c t := by
  refine keeps_congr (d := [.light]) ?_ (by simpa using h)
  refine ⟨?_, ?_, ?_, ?_, ?_, ?_, ?_, ?_, ?_, ?_, ?_, ?_, ?_, ?_, ?_, ?_, ?_, ?_, ?_, ?_⟩ <;>
    first | exact Or.inr rfl | exact Or.inl (by decide)

@[simp] theorem update_supply_keeps {c : List Part} (s t : State) (x : Supply) (h : Part.supply ∈ c) :
    s.keeps c { t with supply := x } ↔ s.keeps c t := by
  refine keeps_congr (d := [.supply]) ?_ (by simpa using h)
  refine ⟨?_, ?_, ?_, ?_, ?_, ?_, ?_, ?_, ?_, ?_, ?_, ?_, ?_, ?_, ?_, ?_, ?_, ?_, ?_, ?_⟩ <;>
    first | exact Or.inr rfl | exact Or.inl (by decide)

@[simp] theorem update_freeCount_keeps {c : List Part} (s t : State) (x : Nat) (h : Part.freeCount ∈ c) :
    s.keeps c { t with freeCount := x } ↔ s.keeps c t := by
  refine keeps_congr (d := [.freeCount]) ?_ (by simpa using h)
  refine ⟨?_, ?_, ?_, ?_, ?_, ?_, ?_, ?_, ?_, ?_, ?_, ?_, ?_, ?_, ?_, ?_, ?_, ?_, ?_, ?_⟩ <;>
    first | exact Or.inr rfl | exact Or.inl (by decide)

@[simp] theorem update_pending_keeps {c : List Part} (s t : State) (x : List Instr) (h : Part.pending ∈ c) :
    s.keeps c { t with pending := x } ↔ s.keeps c t := by
  refine keeps_congr (d := [.pending]) ?_ (by simpa using h)
  refine ⟨?_, ?_, ?_, ?_, ?_, ?_, ?_, ?_, ?_, ?_, ?_, ?_, ?_, ?_, ?_, ?_, ?_, ?_, ?_, ?_⟩ <;>
    first | exact Or.inr rfl | exact Or.inl (by decide)

/-! ## Clock, notices, counters, flash -/

/-- `elapse` changes no part but now. -/
@[simp] theorem elapse_keeps {c : List Part} (s t : State) (n : Nat) (h : ([.now] : List Part) ⊆ c) :
    s.keeps c (t.elapse n) ↔ s.keeps c t := by
  have k : t.keeps [.now] (t.elapse n) := by
    simp only [State.elapse]
    first
    | (simp; done)
    | refine ⟨?_, ?_, ?_, ?_, ?_, ?_, ?_, ?_, ?_, ?_, ?_, ?_, ?_, ?_, ?_, ?_, ?_, ?_, ?_, ?_⟩ <;>
      first | exact Or.inr rfl | exact Or.inl (by decide)
  exact keeps_congr k h

/-- `notify` changes no part but link. -/
@[simp] theorem notify_keeps {c : List Part} (s t : State) (n : Notice) (h : ([.link] : List Part) ⊆ c) :
    s.keeps c (t.notify n) ↔ s.keeps c t := by
  have k : t.keeps [.link] (t.notify n) := by
    simp only [State.notify]
    (repeat' split) <;> simp
  exact keeps_congr k h

/-- `startLine` changes no part but link. -/
@[simp] theorem startLine_keeps {c : List Part} (s t : State) (h : ([.link] : List Part) ⊆ c) :
    s.keeps c t.startLine ↔ s.keeps c t := by
  have k : t.keeps [.link] t.startLine := by
    simp only [State.startLine]
    simp
  exact keeps_congr k h

/-- `countLink` changes no part but counters. -/
@[simp] theorem countLink_keeps {c : List Part} (s t : State) (f : LinkCounters → LinkCounters) (h : ([.counters] : List Part) ⊆ c) :
    s.keeps c (t.countLink f) ↔ s.keeps c t := by
  have k : t.keeps [.counters] (t.countLink f) := by
    simp only [State.countLink]
    simp
  exact keeps_congr k h

/-- `countRadio` changes no part but counters. -/
@[simp] theorem countRadio_keeps {c : List Part} (s t : State) (f : RadioCounters → RadioCounters) (h : ([.counters] : List Part) ⊆ c) :
    s.keeps c (t.countRadio f) ↔ s.keeps c t := by
  have k : t.keeps [.counters] (t.countRadio f) := by
    simp only [State.countRadio]
    simp
  exact keeps_congr k h

/-- `countTraction` changes no part but counters. -/
@[simp] theorem countTraction_keeps {c : List Part} (s t : State) (f : TractionCounters → TractionCounters) (h : ([.counters] : List Part) ⊆ c) :
    s.keeps c (t.countTraction f) ↔ s.keeps c t := by
  have k : t.keeps [.counters] (t.countTraction f) := by
    simp only [State.countTraction]
    simp
  exact keeps_congr k h

/-- `countSound` changes no part but counters. -/
@[simp] theorem countSound_keeps {c : List Part} (s t : State) (f : SoundCounters → SoundCounters) (h : ([.counters] : List Part) ⊆ c) :
    s.keeps c (t.countSound f) ↔ s.keeps c t := by
  have k : t.keeps [.counters] (t.countSound f) := by
    simp only [State.countSound]
    simp
  exact keeps_congr k h

/-- `countSupply` changes no part but counters. -/
@[simp] theorem countSupply_keeps {c : List Part} (s t : State) (f : SupplyCounters → SupplyCounters) (h : ([.counters] : List Part) ⊆ c) :
    s.keeps c (t.countSupply f) ↔ s.keeps c t := by
  have k : t.keeps [.counters] (t.countSupply f) := by
    simp only [State.countSupply]
    simp
  exact keeps_congr k h

/-- `disturbFlash` changes no part but flash, freeCount. -/
@[simp] theorem disturbFlash_keeps {c : List Part} (s t : State) (op : StoreOp) (h : ([.flash, .freeCount] : List Part) ⊆ c) :
    s.keeps c (t.disturbFlash op) ↔ s.keeps c t := by
  have k : t.keeps [.flash, .freeCount] (t.disturbFlash op) := by
    simp only [State.disturbFlash]
    (repeat' split) <;>
    first
    | (simp; done)
    | refine ⟨?_, ?_, ?_, ?_, ?_, ?_, ?_, ?_, ?_, ?_, ?_, ?_, ?_, ?_, ?_, ?_, ?_, ?_, ?_, ?_⟩ <;>
      first | exact Or.inr rfl | exact Or.inl (by decide)
  exact keeps_congr k h

/-! ## Station stop -/

/-- `withControl` changes no part but control. -/
@[simp] theorem withControl_keeps {c : List Part} (s t : State) (k : Control) (h : ([.control] : List Part) ⊆ c) :
    s.keeps c (t.withControl k) ↔ s.keeps c t := by
  have k : t.keeps [.control] (t.withControl k) := by
    simp only [State.withControl]
    simp
  exact keeps_congr k h

/-- `notifyStop` changes no part but link. -/
@[simp] theorem notifyStop_keeps {c : List Part} (s t : State) (k : Option StopCause) (h : ([.link] : List Part) ⊆ c) :
    s.keeps c (t.notifyStop k) ↔ s.keeps c t := by
  have k : t.keeps [.link] (t.notifyStop k) := by
    simp only [State.notifyStop]
    simp
  exact keeps_congr k h

/-- `endStop` changes no part but control, link. -/
@[simp] theorem endStop_keeps {c : List Part} (s t : State) (k : StopCause) (h : ([.control, .link] : List Part) ⊆ c) :
    s.keeps c (t.endStop k) ↔ s.keeps c t := by
  have k : t.keeps [.control, .link] (t.endStop k) := by
    simp only [State.endStop]
    simp
  exact keeps_congr k h

/-- `enterDwell` changes no part but control, link. -/
@[simp] theorem enterDwell_keeps {c : List Part} (s t : State) (h : ([.control, .link] : List Part) ⊆ c) :
    s.keeps c t.enterDwell ↔ s.keeps c t := by
  have k : t.keeps [.control, .link] t.enterDwell := by
    simp only [State.enterDwell]
    simp
  exact keeps_congr k h

/-- `enterBraking` changes no part but control, link. -/
@[simp] theorem enterBraking_keeps {c : List Part} (s t : State) (h : ([.control, .link] : List Part) ⊆ c) :
    s.keeps c t.enterBraking ↔ s.keeps c t := by
  have k : t.keeps [.control, .link] t.enterBraking := by
    simp only [State.enterBraking]
    (repeat' split) <;> simp
  exact keeps_congr k h

/-- `countRevolution` changes no part but control, link. -/
@[simp] theorem countRevolution_keeps {c : List Part} (s t : State) (h : ([.control, .link] : List Part) ⊆ c) :
    s.keeps c t.countRevolution ↔ s.keeps c t := by
  have k : t.keeps [.control, .link] t.countRevolution := by
    simp only [State.countRevolution]
    (repeat' split) <;> simp
  exact keeps_congr k h

/-- `stopOnTraction` changes no part but control, link. -/
@[simp] theorem stopOnTraction_keeps {c : List Part} (s t : State) (h : ([.control, .link] : List Part) ⊆ c) :
    s.keeps c t.stopOnTraction ↔ s.keeps c t := by
  have k : t.keeps [.control, .link] t.stopOnTraction := by
    simp only [State.stopOnTraction]
    (repeat' split) <;> simp
  exact keeps_congr k h

/-- `startStop` changes no part but control, link, counters. -/
@[simp] theorem startStop_keeps {c : List Part} (s t : State) (e : BeaconEntry) (h : ([.control, .link, .counters] : List Part) ⊆ c) :
    s.keeps c (t.startStop e).1 ↔ s.keeps c t := by
  have k : t.keeps [.control, .link, .counters] (t.startStop e).1 := by
    simp only [State.startStop]
    (repeat' split) <;> simp
  exact keeps_congr k h

/-- `endDwell` changes no part but control, link. -/
@[simp] theorem endDwell_keeps {c : List Part} (s t : State) (h : ([.control, .link] : List Part) ⊆ c) :
    s.keeps c t.endDwell ↔ s.keeps c t := by
  have k : t.keeps [.control, .link] t.endDwell := by
    simp only [State.endDwell]
    (repeat' split) <;> simp
  exact keeps_congr k h

/-! ## Smoke -/

/-- `smokeDecide` changes no part but smoke. -/
@[simp] theorem smokeDecide_keeps {c : List Part} (s t : State) (h : ([.smoke] : List Part) ⊆ c) :
    s.keeps c t.smokeDecide ↔ s.keeps c t := by
  have k : t.keeps [.smoke] t.smokeDecide := by
    simp only [State.smokeDecide]
    simp
  exact keeps_congr k h

/-- `latchSmoke` changes no part but smoke, link. -/
@[simp] theorem latchSmoke_keeps {c : List Part} (s t : State) (k : SmokeFault) (h : ([.smoke, .link] : List Part) ⊆ c) :
    s.keeps c (t.latchSmoke k) ↔ s.keeps c t := by
  have k : t.keeps [.smoke, .link] (t.latchSmoke k) := by
    simp only [State.latchSmoke]
    simp
  exact keeps_congr k h

/-- `clearSmoke` changes no part but smoke, link. -/
@[simp] theorem clearSmoke_keeps {c : List Part} (s t : State) (h : ([.smoke, .link] : List Part) ⊆ c) :
    s.keeps c t.clearSmoke ↔ s.keeps c t := by
  have k : t.keeps [.smoke, .link] t.clearSmoke := by
    simp only [State.clearSmoke]
    simp
  exact keeps_congr k h

/-- `smokeEnableChanged` changes no part but smoke, link. -/
@[simp] theorem smokeEnableChanged_keeps {c : List Part} (s t : State) (b : Bool) (h : ([.smoke, .link] : List Part) ⊆ c) :
    s.keeps c (t.smokeEnableChanged b) ↔ s.keeps c t := by
  have k : t.keeps [.smoke, .link] (t.smokeEnableChanged b) := by
    simp only [State.smokeEnableChanged]
    (repeat' split) <;> simp
  exact keeps_congr k h

/-- `smokeOnTraction` changes no part but smoke. -/
@[simp] theorem smokeOnTraction_keeps {c : List Part} (s t : State) (b : TractionState) (h : ([.smoke] : List Part) ⊆ c) :
    s.keeps c (t.smokeOnTraction b) ↔ s.keeps c t := by
  have k : t.keeps [.smoke] (t.smokeOnTraction b) := by
    simp only [State.smokeOnTraction]
    (repeat' split) <;> simp
  exact keeps_congr k h

/-- `smokeSettle` changes no part but smoke. -/
@[simp] theorem smokeSettle_keeps {c : List Part} (s t : State) (h : ([.smoke] : List Part) ⊆ c) :
    s.keeps c t.smokeSettle ↔ s.keeps c t := by
  have k : t.keeps [.smoke] t.smokeSettle := by
    simp only [State.smokeSettle]
    simp
  exact keeps_congr k h

/-- `smokeSample` changes no part but smoke, link. -/
@[simp] theorem smokeSample_keeps {c : List Part} (s t : State) (m : Int) (h : ([.smoke, .link] : List Part) ⊆ c) :
    s.keeps c (t.smokeSample m) ↔ s.keeps c t := by
  have k : t.keeps [.smoke, .link] (t.smokeSample m) := by
    simp only [State.smokeSample]
    (repeat' split) <;> simp
  exact keeps_congr k h

/-- `puff` changes no part but smoke. -/
@[simp] theorem puff_keeps {c : List Part} (s t : State) (n : Nat) (h : ([.smoke] : List Part) ⊆ c) :
    s.keeps c (t.puff n) ↔ s.keeps c t := by
  have k : t.keeps [.smoke] (t.puff n) := by
    simp only [State.puff]
    (repeat' split) <;> simp
  exact keeps_congr k h

/-- `endBurst` changes no part but smoke. -/
@[simp] theorem endBurst_keeps {c : List Part} (s t : State) (h : ([.smoke] : List Part) ⊆ c) :
    s.keeps c t.endBurst ↔ s.keeps c t := by
  have k : t.keeps [.smoke] t.endBurst := by
    simp only [State.endBurst]
    (repeat' split) <;> simp
  exact keeps_congr k h

/-! ## Bridge -/

/-- `enterBridge` changes no part but bridge. -/
@[simp] theorem enterBridge_keeps {c : List Part} (s t : State) (b : BridgeState) (h : ([.bridge] : List Part) ⊆ c) :
    s.keeps c (t.enterBridge b) ↔ s.keeps c t := by
  have k : t.keeps [.bridge] (t.enterBridge b) := by
    simp only [State.enterBridge]
    simp
  exact keeps_congr k h

/-- `followBridge` changes no part but bridge. -/
@[simp] theorem followBridge_keeps {c : List Part} (s t : State) (h : ([.bridge] : List Part) ⊆ c) :
    s.keeps c t.followBridge ↔ s.keeps c t := by
  have k : t.keeps [.bridge] t.followBridge := by
    simp only [State.followBridge]
    (repeat' split) <;> simp
  exact keeps_congr k h

/-- `zeroLevels` changes no part but bridge. -/
@[simp] theorem zeroLevels_keeps {c : List Part} (s t : State) (h : ([.bridge] : List Part) ⊆ c) :
    s.keeps c t.zeroLevels ↔ s.keeps c t := by
  have k : t.keeps [.bridge] t.zeroLevels := by
    simp only [State.zeroLevels]
    simp
  exact keeps_congr k h

/-- `periodExpiry` changes no part but bridge. -/
@[simp] theorem periodExpiry_keeps {c : List Part} (s t : State) (n : Nat) (h : ([.bridge] : List Part) ⊆ c) :
    s.keeps c (t.periodExpiry n) ↔ s.keeps c t := by
  have k : t.keeps [.bridge] (t.periodExpiry n) := by
    simp only [State.periodExpiry]
    (repeat' split) <;> simp
  exact keeps_congr k h

/-- `measure` changes no part but motion, bridge, counters. -/
@[simp] theorem measure_keeps {c : List Part} (s t : State) (v : Int) (h : ([.motion, .bridge, .counters] : List Part) ⊆ c) :
    s.keeps c (t.measure v) ↔ s.keeps c t := by
  have k : t.keeps [.motion, .bridge, .counters] (t.measure v) := by
    simp only [State.measure]
    (repeat' split) <;>
    first
    | (simp; done)
    | refine ⟨?_, ?_, ?_, ?_, ?_, ?_, ?_, ?_, ?_, ?_, ?_, ?_, ?_, ?_, ?_, ?_, ?_, ?_, ?_, ?_⟩ <;>
      first | exact Or.inr rfl | exact Or.inl (by decide)
  exact keeps_congr k h

/-- `handOver` changes no part but bridge. -/
@[simp] theorem handOver_keeps {c : List Part} (s t : State) (h : ([.bridge] : List Part) ⊆ c) :
    s.keeps c t.handOver ↔ s.keeps c t := by
  have k : t.keeps [.bridge] t.handOver := by
    simp only [State.handOver]
    simp
  exact keeps_congr k h

/-- `newGroup` changes no part but bridge. -/
@[simp] theorem newGroup_keeps {c : List Part} (s t : State) (h : ([.bridge] : List Part) ⊆ c) :
    s.keeps c t.newGroup ↔ s.keeps c t := by
  have k : t.keeps [.bridge] t.newGroup := by
    simp only [State.newGroup]
    simp
  exact keeps_congr k h

/-- `readCurrent` changes no part but bridge. -/
@[simp] theorem readCurrent_keeps {c : List Part} (s t : State) (n : Nat) (h : ([.bridge] : List Part) ⊆ c) :
    s.keeps c (t.readCurrent n) ↔ s.keeps c t := by
  have k : t.keeps [.bridge] (t.readCurrent n) := by
    simp only [State.readCurrent]
    simp
  exact keeps_congr k h

/-- `startGroup` changes no part but bridge. -/
@[simp] theorem startGroup_keeps {c : List Part} (s t : State) (n : Nat) (h : ([.bridge] : List Part) ⊆ c) :
    s.keeps c (t.startGroup n) ↔ s.keeps c t := by
  have k : t.keeps [.bridge] (t.startGroup n) := by
    simp only [State.startGroup]
    (repeat' split) <;> simp
  exact keeps_congr k h

/-- `startCarrier` changes no part but bridge. -/
@[simp] theorem startCarrier_keeps {c : List Part} (s t : State) (n : Nat) (h : ([.bridge] : List Part) ⊆ c) :
    s.keeps c (t.startCarrier n) ↔ s.keeps c t := by
  have k : t.keeps [.bridge] (t.startCarrier n) := by
    simp only [State.startCarrier]
    (repeat' split) <;> simp
  exact keeps_congr k h

/-- `deadTimeOver` changes no part but bridge. -/
@[simp] theorem deadTimeOver_keeps {c : List Part} (s t : State) (h : ([.bridge] : List Part) ⊆ c) :
    s.keeps c t.deadTimeOver ↔ s.keeps c t := by
  have k : t.keeps [.bridge] t.deadTimeOver := by
    simp only [State.deadTimeOver]
    simp
  exact keeps_congr k h

/-! ## Traction -/

/-- `tractionChanged` changes no part but control, link, smoke. -/
@[simp] theorem tractionChanged_keeps {c : List Part} (s t : State) (b : TractionState) (h : ([.control, .link, .smoke] : List Part) ⊆ c) :
    s.keeps c (t.tractionChanged b) ↔ s.keeps c t := by
  have k : t.keeps [.control, .link, .smoke] (t.tractionChanged b) := by
    simp only [State.tractionChanged]
    (repeat' split) <;> simp
  exact keeps_congr k h

/-- `latchMotion` changes no part but motion, counters, link. -/
@[simp] theorem latchMotion_keeps {c : List Part} (s t : State) (k : TractionFault) (h : ([.motion, .counters, .link] : List Part) ⊆ c) :
    s.keeps c (t.latchMotion k) ↔ s.keeps c t := by
  have k : t.keeps [.motion, .counters, .link] (t.latchMotion k) := by
    simp only [State.latchMotion]
    (repeat' split) <;> simp
  exact keeps_congr k h

/-- `latchShort` changes no part but motion, counters, bridge, control, link, smoke. -/
@[simp] theorem latchShort_keeps {c : List Part} (s t : State) (h : ([.motion, .counters, .bridge, .control, .link, .smoke] : List Part) ⊆ c) :
    s.keeps c t.latchShort ↔ s.keeps c t := by
  have k : t.keeps [.motion, .counters, .bridge, .control, .link, .smoke] t.latchShort := by
    simp only [State.latchShort]
    (repeat' split) <;> simp
  exact keeps_congr k h

/-- `estopSignal` changes no part but motion, bridge, control, link, smoke. -/
@[simp] theorem estopSignal_keeps {c : List Part} (s t : State) (h : ([.motion, .bridge, .control, .link, .smoke] : List Part) ⊆ c) :
    s.keeps c t.estopSignal ↔ s.keeps c t := by
  have k : t.keeps [.motion, .bridge, .control, .link, .smoke] t.estopSignal := by
    simp only [State.estopSignal]
    (repeat' split) <;> simp
  exact keeps_congr k h

/-- `estopCleared` changes no part but motion, bridge, control, link, smoke. -/
@[simp] theorem estopCleared_keeps {c : List Part} (s t : State) (h : ([.motion, .bridge, .control, .link, .smoke] : List Part) ⊆ c) :
    s.keeps c t.estopCleared ↔ s.keeps c t := by
  have k : t.keeps [.motion, .bridge, .control, .link, .smoke] t.estopCleared := by
    simp only [State.estopCleared]
    (repeat' split) <;> simp
  exact keeps_congr k h

/-- `clearTraction` changes no part but motion, bridge, control, link, smoke. -/
@[simp] theorem clearTraction_keeps {c : List Part} (s t : State) (h : ([.motion, .bridge, .control, .link, .smoke] : List Part) ⊆ c) :
    s.keeps c t.clearTraction ↔ s.keeps c t := by
  have k : t.keeps [.motion, .bridge, .control, .link, .smoke] t.clearTraction := by
    simp only [State.clearTraction]
    (repeat' split) <;> simp
  exact keeps_congr k h

/-- `zeroReported` changes no part but motion, bridge, control, link, smoke. -/
@[simp] theorem zeroReported_keeps {c : List Part} (s t : State) (h : ([.motion, .bridge, .control, .link, .smoke] : List Part) ⊆ c) :
    s.keeps c t.zeroReported ↔ s.keeps c t := by
  have k : t.keeps [.motion, .bridge, .control, .link, .smoke] t.zeroReported := by
    simp only [State.zeroReported]
    (repeat' split) <;> simp
  exact keeps_congr k h

/-- `forceIdle` changes no part but motion, bridge, control, link, smoke. -/
@[simp] theorem forceIdle_keeps {c : List Part} (s t : State) (h : ([.motion, .bridge, .control, .link, .smoke] : List Part) ⊆ c) :
    s.keeps c t.forceIdle ↔ s.keeps c t := by
  have k : t.keeps [.motion, .bridge, .control, .link, .smoke] t.forceIdle := by
    simp only [State.forceIdle]
    (repeat' split) <;> simp
  exact keeps_congr k h

/-- `regulationStep` changes no part but motion, counters, link. -/
@[simp] theorem regulationStep_keeps {c : List Part} (s t : State) (h : ([.motion, .counters, .link] : List Part) ⊆ c) :
    s.keeps c t.regulationStep ↔ s.keeps c t := by
  have k : t.keeps [.motion, .counters, .link] t.regulationStep := by
    simp only [State.regulationStep]
    (repeat' split) <;> simp
  exact keeps_congr k h

/-- `trip` changes no part but motion, counters, bridge, control, link, smoke. -/
@[simp] theorem trip_keeps {c : List Part} (s t : State) (n : Nat) (h : ([.motion, .counters, .bridge, .control, .link, .smoke] : List Part) ⊆ c) :
    s.keeps c (t.trip n) ↔ s.keeps c t := by
  have k : t.keeps [.motion, .counters, .bridge, .control, .link, .smoke] (t.trip n) := by
    simp only [State.trip]
    (repeat' split) <;> simp
  exact keeps_congr k h

/-! ## Store -/

/-- `setVoice` changes no part but sound. -/
@[simp] theorem setVoice_keeps {c : List Part} (s t : State) (i : Fin 8) (v : Voice) (h : ([.sound] : List Part) ⊆ c) :
    s.keeps c (t.setVoice i v) ↔ s.keeps c t := by
  have k : t.keeps [.sound] (t.setVoice i v) := by
    simp only [State.setVoice]
    simp
  exact keeps_congr k h

/-- `setBuffers` changes no part but store. -/
@[simp] theorem setBuffers_keeps {c : List Part} (s t : State) (i : Fin 8) (b : VoiceBuffers) (h : ([.store] : List Part) ⊆ c) :
    s.keeps c (t.setBuffers i b) ↔ s.keeps c t := by
  have k : t.keeps [.store] (t.setBuffers i b) := by
    simp only [State.setBuffers]
    simp
  exact keeps_congr k h

/-- `emptyBuffers` changes no part but store. -/
@[simp] theorem emptyBuffers_keeps {c : List Part} (s t : State) (i : Fin 8) (h : ([.store] : List Part) ⊆ c) :
    s.keeps c (t.emptyBuffers i) ↔ s.keeps c t := by
  have k : t.keeps [.store] (t.emptyBuffers i) := by
    simp only [State.emptyBuffers]
    simp
  exact keeps_congr k h

/-- `askFirst` changes no part but store. -/
@[simp] theorem askFirst_keeps {c : List Part} (s t : State) (i : Fin 8) (v : Voice) (h : ([.store] : List Part) ⊆ c) :
    s.keeps c (t.askFirst i v) ↔ s.keeps c t := by
  have k : t.keeps [.store] (t.askFirst i v) := by
    simp only [State.askFirst]
    simp
  exact keeps_congr k h

/-- `arbitrate` changes no part but store. -/
@[simp] theorem arbitrate_keeps {c : List Part} (s t : State) (h : ([.store] : List Part) ⊆ c) :
    s.keeps c t.arbitrate ↔ s.keeps c t := by
  have k : t.keeps [.store] t.arbitrate := by
    simp only [State.arbitrate]
    simp
  exact keeps_congr k h

/-- `deliverLine` changes no part but sound, store. -/
@[simp] theorem deliverLine_keeps {c : List Part} (s t : State) (i : Fin 8) (b : BufferName) (n : Nat) (h : ([.sound, .store] : List Part) ⊆ c) :
    s.keeps c (t.deliverLine i b n) ↔ s.keeps c t := by
  have k : t.keeps [.sound, .store] (t.deliverLine i b n) := by
    simp only [State.deliverLine]
    (repeat' split) <;> simp
  exact keeps_congr k h

/-- `lineComplete` changes no part but sound, store. -/
@[simp] theorem lineComplete_keeps {c : List Part} (s t : State) (i : Fin 8) (b : BufferName) (n : Nat) (h : ([.sound, .store] : List Part) ⊆ c) :
    s.keeps c (t.lineComplete i b n) ↔ s.keeps c t := by
  have k : t.keeps [.sound, .store] (t.lineComplete i b n) := by
    simp only [State.lineComplete]
    simp
  exact keeps_congr k h

/-- `acceptOp` changes no part but store. -/
@[simp] theorem acceptOp_keeps {c : List Part} (s t : State) (op : StoreOp) (h : ([.store] : List Part) ⊆ c) :
    s.keeps c (t.acceptOp op) ↔ s.keeps c t := by
  have k : t.keeps [.store] (t.acceptOp op) := by
    simp only [State.acceptOp]
    simp
  exact keeps_congr k h

/-- `leaveOp` changes no part but store. -/
@[simp] theorem leaveOp_keeps {c : List Part} (s t : State) (p : PortState) (h : ([.store] : List Part) ⊆ c) :
    s.keeps c (t.leaveOp p) ↔ s.keeps c t := by
  have k : t.keeps [.store] (t.leaveOp p) := by
    simp only [State.leaveOp]
    simp
  exact keeps_congr k h

/-- `storePoll` changes no part but store, flash, freeCount, link. -/
@[simp] theorem storePoll_keeps {c : List Part} (s t : State) (b : Bool) (h : ([.store, .flash, .freeCount, .link] : List Part) ⊆ c) :
    s.keeps c (t.storePoll b) ↔ s.keeps c t := by
  have k : t.keeps [.store, .flash, .freeCount, .link] (t.storePoll b) := by
    simp only [State.storePoll]
    (repeat' split) <;> simp
  exact keeps_congr k h

/-- `waitingPoll` changes no part but store. -/
@[simp] theorem waitingPoll_keeps {c : List Part} (s t : State) (b : Bool) (h : ([.store] : List Part) ⊆ c) :
    s.keeps c (t.waitingPoll b) ↔ s.keeps c t := by
  have k : t.keeps [.store] (t.waitingPoll b) := by
    simp only [State.waitingPoll]
    (repeat' split) <;> simp
  exact keeps_congr k h

/-! ## Sound -/

/-- `startVoice` changes no part but sound, store. -/
@[simp] theorem startVoice_keeps {c : List Part} (s t : State) (i : Fin 8) (v : Voice) (h : ([.sound, .store] : List Part) ⊆ c) :
    s.keeps c (t.startVoice i v) ↔ s.keeps c t := by
  have k : t.keeps [.sound, .store] (t.startVoice i v) := by
    simp only [State.startVoice]
    simp
  exact keeps_congr k h

/-- `freeVoice` changes no part but sound, store. -/
@[simp] theorem freeVoice_keeps {c : List Part} (s t : State) (i : Fin 8) (h : ([.sound, .store] : List Part) ⊆ c) :
    s.keeps c (t.freeVoice i) ↔ s.keeps c t := by
  have k : t.keeps [.sound, .store] (t.freeVoice i) := by
    simp only [State.freeVoice]
    simp
  exact keeps_congr k h

/-- `notifyDone` changes no part but link. -/
@[simp] theorem notifyDone_keeps {c : List Part} (s t : State) (v : Voice) (i : Fin 8) (k : CueEnd) (h : ([.link] : List Part) ⊆ c) :
    s.keeps c (t.notifyDone v i k) ↔ s.keeps c t := by
  have k : t.keeps [.link] (t.notifyDone v i k) := by
    simp only [State.notifyDone]
    (repeat' split) <;> simp
  exact keeps_congr k h

/-- `startAmbient` changes no part but sound, store. -/
@[simp] theorem startAmbient_keeps {c : List Part} (s t : State) (n p : Nat) (h : ([.sound, .store] : List Part) ⊆ c) :
    s.keeps c (t.startAmbient n p) ↔ s.keeps c t := by
  have k : t.keeps [.sound, .store] (t.startAmbient n p) := by
    simp only [State.startAmbient]
    (repeat' split) <;> simp
  exact keeps_congr k h

/-- `startWanted` changes no part but sound, store. -/
@[simp] theorem startWanted_keeps {c : List Part} (s t : State) (h : ([.sound, .store] : List Part) ⊆ c) :
    s.keeps c t.startWanted ↔ s.keeps c t := by
  have k : t.keeps [.sound, .store] t.startWanted := by
    simp only [State.startWanted]
    (repeat' split) <;> simp
  exact keeps_congr k h

/-- `ambientUpdate` changes no part but sound, store. -/
@[simp] theorem ambientUpdate_keeps {c : List Part} (s t : State) (h : ([.sound, .store] : List Part) ⊆ c) :
    s.keeps c t.ambientUpdate ↔ s.keeps c t := by
  have k : t.keeps [.sound, .store] t.ambientUpdate := by
    simp only [State.ambientUpdate]
    (repeat' split) <;> simp
  exact keeps_congr k h

/-- `resumeFrom` changes no part but sound, store, counters, link. -/
@[simp] theorem resumeFrom_keeps {c : List Part} (s t : State) (l : List Voice) (h : ([.sound, .store, .counters, .link] : List Part) ⊆ c) :
    s.keeps c (t.resumeFrom l) ↔ s.keeps c t := by
  have k : t.keeps [.sound, .store, .counters, .link] (t.resumeFrom l) := by
    induction l generalizing t with
    | nil => simp [State.resumeFrom]
    | cons x l ih =>
      have ih' : ∀ a b : State, a.keeps [.sound, .store, .counters, .link] (b.resumeFrom l) ↔ a.keeps [.sound, .store, .counters, .link] b := fun a b => keeps_congr (ih b) (by simp)
      simp only [State.resumeFrom]
      (repeat' split) <;> simp [ih']
  exact keeps_congr k h

/-- `sceneEnd` changes no part but sound, store, counters, link. -/
@[simp] theorem sceneEnd_keeps {c : List Part} (s t : State) (h : ([.sound, .store, .counters, .link] : List Part) ⊆ c) :
    s.keeps c t.sceneEnd ↔ s.keeps c t := by
  have k : t.keeps [.sound, .store, .counters, .link] t.sceneEnd := by
    simp only [State.sceneEnd]
    (repeat' split) <;> simp
  exact keeps_congr k h

/-- `endVoice` changes no part but sound, store, counters, link. -/
@[simp] theorem endVoice_keeps {c : List Part} (s t : State) (i : Fin 8) (k : CueEnd) (h : ([.sound, .store, .counters, .link] : List Part) ⊆ c) :
    s.keeps c (t.endVoice i k) ↔ s.keeps c t := by
  have k : t.keeps [.sound, .store, .counters, .link] (t.endVoice i k) := by
    simp only [State.endVoice]
    (repeat' split) <;> simp
  exact keeps_congr k h

/-- `releaseVoice` changes no part but sound, store, counters, link. -/
@[simp] theorem releaseVoice_keeps {c : List Part} (s t : State) (i : Fin 8) (h : ([.sound, .store, .counters, .link] : List Part) ⊆ c) :
    s.keeps c (t.releaseVoice i) ↔ s.keeps c t := by
  have k : t.keeps [.sound, .store, .counters, .link] (t.releaseVoice i) := by
    simp only [State.releaseVoice]
    (repeat' split) <;> simp
  exact keeps_congr k h

/-- `releaseVoices` changes no part but sound, store, counters, link. -/
@[simp] theorem releaseVoices_keeps {c : List Part} (s t : State) (l : List (Fin 8)) (h : ([.sound, .store, .counters, .link] : List Part) ⊆ c) :
    s.keeps c (t.releaseVoices l) ↔ s.keeps c t := by
  have k : t.keeps [.sound, .store, .counters, .link] (t.releaseVoices l) := by
    induction l generalizing t with
    | nil => simp [State.releaseVoices]
    | cons x l ih =>
      have ih' : ∀ v w : State, v.keeps [.sound, .store, .counters, .link] (w.releaseVoices l) ↔ v.keeps [.sound, .store, .counters, .link] w := fun v w => keeps_congr (ih w) (by simp)
      simp only [State.releaseVoices]
      simp [ih']
  exact keeps_congr k h

/-- `releaseCue` changes no part but sound, store, counters, link. -/
@[simp] theorem releaseCue_keeps {c : List Part} (s t : State) (n : Nat) (h : ([.sound, .store, .counters, .link] : List Part) ⊆ c) :
    s.keeps c (t.releaseCue n) ↔ s.keeps c t := by
  have k : t.keeps [.sound, .store, .counters, .link] (t.releaseCue n) := by
    simp only [State.releaseCue]
    simp
  exact keeps_congr k h

/-- `takeVoice` changes no part but sound, store, counters, link. -/
@[simp] theorem takeVoice_keeps {c : List Part} (s t : State) (v : Voice) (h : ([.sound, .store, .counters, .link] : List Part) ⊆ c) :
    s.keeps c (t.takeVoice v).1 ↔ s.keeps c t := by
  have k : t.keeps [.sound, .store, .counters, .link] (t.takeVoice v).1 := by
    simp only [State.takeVoice]
    (repeat' split) <;> simp
  exact keeps_congr k h

/-- `restartVoice` changes no part but sound, store, counters, link. -/
@[simp] theorem restartVoice_keeps {c : List Part} (s t : State) (i : Fin 8) (v : Voice) (h : ([.sound, .store, .counters, .link] : List Part) ⊆ c) :
    s.keeps c (t.restartVoice i v).1 ↔ s.keeps c t := by
  have k : t.keeps [.sound, .store, .counters, .link] (t.restartVoice i v).1 := by
    simp only [State.restartVoice]
    (repeat' split) <;> simp
  exact keeps_congr k h

/-- `startGeneral` changes no part but sound, store, counters, link. -/
@[simp] theorem startGeneral_keeps {c : List Part} (s t : State) (n : Nat) (e : CueEntry) (m : SampleEntry) (b : Bool) (h : ([.sound, .store, .counters, .link] : List Part) ⊆ c) :
    s.keeps c (t.startGeneral n e m b).1 ↔ s.keeps c t := by
  have k : t.keeps [.sound, .store, .counters, .link] (t.startGeneral n e m b).1 := by
    simp only [State.startGeneral]
    (repeat' split) <;> simp
  exact keeps_congr k h

/-- `startScene` changes no part but sound, store, counters, link. -/
@[simp] theorem startScene_keeps {c : List Part} (s t : State) (n : Nat) (e : CueEntry) (m : SampleEntry) (b : Bool) (h : ([.sound, .store, .counters, .link] : List Part) ⊆ c) :
    s.keeps c (t.startScene n e m b).1 ↔ s.keeps c t := by
  have k : t.keeps [.sound, .store, .counters, .link] (t.startScene n e m b).1 := by
    simp only [State.startScene]
    (repeat' split) <;> simp
  exact keeps_congr k h

/-- `startCue` changes no part but sound, store, counters, link. -/
@[simp] theorem startCue_keeps {c : List Part} (s t : State) (n : Nat) (b : Bool) (h : ([.sound, .store, .counters, .link] : List Part) ⊆ c) :
    s.keeps c (t.startCue n b).1 ↔ s.keeps c t := by
  have k : t.keeps [.sound, .store, .counters, .link] (t.startCue n b).1 := by
    simp only [State.startCue]
    (repeat' split) <;> simp
  exact keeps_congr k h

/-- `haltVoices` changes no part but sound, store, counters, link. -/
@[simp] theorem haltVoices_keeps {c : List Part} (s t : State) (n : Nat) (h : ([.sound, .store, .counters, .link] : List Part) ⊆ c) :
    s.keeps c (t.haltVoices n).1 ↔ s.keeps c t := by
  have k : t.keeps [.sound, .store, .counters, .link] (t.haltVoices n).1 := by
    simp only [State.haltVoices]
    simp
  exact keeps_congr k h

/-- `chuff` changes no part but sound, store, counters, link. -/
@[simp] theorem chuff_keeps {c : List Part} (s t : State) (h : ([.sound, .store, .counters, .link] : List Part) ⊆ c) :
    s.keeps c t.chuff ↔ s.keeps c t := by
  have k : t.keeps [.sound, .store, .counters, .link] t.chuff := by
    simp only [State.chuff]
    (repeat' split) <;> simp
  exact keeps_congr k h

/-- `lineBoundary` changes no part but sound, store, counters, link. -/
@[simp] theorem lineBoundary_keeps {c : List Part} (s t : State) (i : Fin 8) (h : ([.sound, .store, .counters, .link] : List Part) ⊆ c) :
    s.keeps c (t.lineBoundary i) ↔ s.keeps c t := by
  have k : t.keeps [.sound, .store, .counters, .link] (t.lineBoundary i) := by
    simp only [State.lineBoundary]
    (repeat' split) <;> simp
  exact keeps_congr k h

/-- `advanceVoice` changes no part but sound, store, counters, link. -/
@[simp] theorem advanceVoice_keeps {c : List Part} (s t : State) (i : Fin 8) (h : ([.sound, .store, .counters, .link] : List Part) ⊆ c) :
    s.keeps c (t.advanceVoice i) ↔ s.keeps c t := by
  have k : t.keeps [.sound, .store, .counters, .link] (t.advanceVoice i) := by
    simp only [State.advanceVoice]
    (repeat' split) <;> simp
  exact keeps_congr k h

/-- `notifyCut` changes no part but link. -/
@[simp] theorem notifyCut_keeps {c : List Part} (s t : State) (l : List (Voice × Fin 8)) (h : ([.link] : List Part) ⊆ c) :
    s.keeps c (t.notifyCut l) ↔ s.keeps c t := by
  have k : t.keeps [.link] (t.notifyCut l) := by
    induction l generalizing t with
    | nil => simp [State.notifyCut]
    | cons x l ih =>
      have ih' : ∀ v w : State, v.keeps [.link] (w.notifyCut l) ↔ v.keeps [.link] w := fun v w => keeps_congr (ih w) (by simp)
      simp only [State.notifyCut]
      simp [ih']
  exact keeps_congr k h

/-- `silence` changes no part but sound, store. -/
@[simp] theorem silence_keeps {c : List Part} (s t : State) (h : ([.sound, .store] : List Part) ⊆ c) :
    s.keeps c t.silence ↔ s.keeps c t := by
  have k : t.keeps [.sound, .store] t.silence := by
    simp only [State.silence]
    first
    | (simp; done)
    | refine ⟨?_, ?_, ?_, ?_, ?_, ?_, ?_, ?_, ?_, ?_, ?_, ?_, ?_, ?_, ?_, ?_, ?_, ?_, ?_, ?_⟩ <;>
      first | exact Or.inr rfl | exact Or.inl (by decide)
  exact keeps_congr k h

/-- `cutVoices` changes no part but sound, store, link. -/
@[simp] theorem cutVoices_keeps {c : List Part} (s t : State) (h : ([.sound, .store, .link] : List Part) ⊆ c) :
    s.keeps c t.cutVoices ↔ s.keeps c t := by
  have k : t.keeps [.sound, .store, .link] t.cutVoices := by
    simp only [State.cutVoices]
    simp
  exact keeps_congr k h

/-- `setRoles` changes no part but sound. -/
@[simp] theorem setRoles_keeps {c : List Part} (s t : State) (h : ([.sound] : List Part) ⊆ c) :
    s.keeps c t.setRoles ↔ s.keeps c t := by
  have k : t.keeps [.sound] t.setRoles := by
    simp only [State.setRoles]
    simp
  exact keeps_congr k h

/-- `ambientStep` changes no part but sound, store. -/
@[simp] theorem ambientStep_keeps {c : List Part} (s t : State) (h : ([.sound, .store] : List Part) ⊆ c) :
    s.keeps c t.ambientStep ↔ s.keeps c t := by
  have k : t.keeps [.sound, .store] t.ambientStep := by
    simp only [State.ambientStep]
    simp
  exact keeps_congr k h

/-! ## Mixer -/

/-- `advanceVoices` changes no part but sound, store, counters, link. -/
@[simp] theorem advanceVoices_keeps {c : List Part} (s t : State) (l : List (Fin 8)) (h : ([.sound, .store, .counters, .link] : List Part) ⊆ c) :
    s.keeps c (t.advanceVoices l) ↔ s.keeps c t := by
  have k : t.keeps [.sound, .store, .counters, .link] (t.advanceVoices l) := by
    induction l generalizing t with
    | nil => simp [State.advanceVoices]
    | cons x l ih =>
      have ih' : ∀ v w : State, v.keeps [.sound, .store, .counters, .link] (w.advanceVoices l) ↔ v.keeps [.sound, .store, .counters, .link] w := fun v w => keeps_congr (ih w) (by simp)
      simp only [State.advanceVoices]
      simp [ih']
  exact keeps_congr k h

/-- `mixSample` changes no part but audio, sound, store, counters, link. -/
@[simp] theorem mixSample_keeps {c : List Part} (s t : State) (h : ([.audio, .sound, .store, .counters, .link] : List Part) ⊆ c) :
    s.keeps c t.mixSample ↔ s.keeps c t := by
  have k : t.keeps [.audio, .sound, .store, .counters, .link] t.mixSample := by
    simp only [State.mixSample]
    (repeat' split) <;> simp
  exact keeps_congr k h

/-! ## Cadence -/

/-- `withCadence` changes no part but cadence. -/
@[simp] theorem withCadence_keeps {c : List Part} (s t : State) (k : Cadence) (h : ([.cadence] : List Part) ⊆ c) :
    s.keeps c (t.withCadence k) ↔ s.keeps c t := by
  have k : t.keeps [.cadence] (t.withCadence k) := by
    simp only [State.withCadence]
    simp
  exact keeps_congr k h

/-- `raiseChuff` changes no part but smoke, sound, store, counters, link. -/
@[simp] theorem raiseChuff_keeps {c : List Part} (s t : State) (n : Nat) (h : ([.smoke, .sound, .store, .counters, .link] : List Part) ⊆ c) :
    s.keeps c (t.raiseChuff n) ↔ s.keeps c t := by
  have k : t.keeps [.smoke, .sound, .store, .counters, .link] (t.raiseChuff n) := by
    simp only [State.raiseChuff]
    simp
  exact keeps_congr k h

/-- `revolution` changes no part but cadence, smoke, control, sound, store, counters, link. -/
@[simp] theorem revolution_keeps {c : List Part} (s t : State) (n : Nat) (h : ([.cadence, .smoke, .control, .sound, .store, .counters, .link] : List Part) ⊆ c) :
    s.keeps c (t.revolution n) ↔ s.keeps c t := by
  have k : t.keeps [.cadence, .smoke, .control, .sound, .store, .counters, .link] (t.revolution n) := by
    simp only [State.revolution]
    simp
  exact keeps_congr k h

/-- `chuffExpiry` changes no part but cadence, smoke, control, sound, store, counters, link. -/
@[simp] theorem chuffExpiry_keeps {c : List Part} (s t : State) (h : ([.cadence, .smoke, .control, .sound, .store, .counters, .link] : List Part) ⊆ c) :
    s.keeps c t.chuffExpiry ↔ s.keeps c t := by
  have k : t.keeps [.cadence, .smoke, .control, .sound, .store, .counters, .link] t.chuffExpiry := by
    simp only [State.chuffExpiry]
    (repeat' split) <;> simp
  exact keeps_congr k h

/-- `captureSaturated` changes no part but cadence. -/
@[simp] theorem captureSaturated_keeps {c : List Part} (s t : State) (h : ([.cadence] : List Part) ⊆ c) :
    s.keeps c t.captureSaturated ↔ s.keeps c t := by
  have k : t.keeps [.cadence] t.captureSaturated := by
    simp only [State.captureSaturated]
    simp
  exact keeps_congr k h

/-- `capture` changes no part but cadence, smoke, control, sound, store, counters, link. -/
@[simp] theorem capture_keeps {c : List Part} (s t : State) (n : Nat) (h : ([.cadence, .smoke, .control, .sound, .store, .counters, .link] : List Part) ⊆ c) :
    s.keeps c (t.capture n) ↔ s.keeps c t := by
  have k : t.keeps [.cadence, .smoke, .control, .sound, .store, .counters, .link] (t.capture n) := by
    simp only [State.capture]
    (repeat' split) <;> simp
  exact keeps_congr k h

/-- `notifySensor` changes no part but link. -/
@[simp] theorem notifySensor_keeps {c : List Part} (s t : State) (h : ([.link] : List Part) ⊆ c) :
    s.keeps c t.notifySensor ↔ s.keeps c t := by
  have k : t.keeps [.link] t.notifySensor := by
    simp only [State.notifySensor]
    simp
  exact keeps_congr k h

/-- `axleEdge` changes no part but cadence, smoke, control, sound, store, counters, link. -/
@[simp] theorem axleEdge_keeps {c : List Part} (s t : State) (h : ([.cadence, .smoke, .control, .sound, .store, .counters, .link] : List Part) ⊆ c) :
    s.keeps c t.axleEdge ↔ s.keeps c t := by
  have k : t.keeps [.cadence, .smoke, .control, .sound, .store, .counters, .link] t.axleEdge := by
    simp only [State.axleEdge]
    (repeat' split) <;> simp
  exact keeps_congr k h

/-- `startSynthetic` changes no part but cadence, smoke, control, sound, store, counters, link. -/
@[simp] theorem startSynthetic_keeps {c : List Part} (s t : State) (n : Nat) (h : ([.cadence, .smoke, .control, .sound, .store, .counters, .link] : List Part) ⊆ c) :
    s.keeps c (t.startSynthetic n) ↔ s.keeps c t := by
  have k : t.keeps [.cadence, .smoke, .control, .sound, .store, .counters, .link] (t.startSynthetic n) := by
    simp only [State.startSynthetic]
    simp
  exact keeps_congr k h

/-- `syntheticStep` changes no part but cadence, smoke, control, sound, store, counters, link. -/
@[simp] theorem syntheticStep_keeps {c : List Part} (s t : State) (h : ([.cadence, .smoke, .control, .sound, .store, .counters, .link] : List Part) ⊆ c) :
    s.keeps c t.syntheticStep ↔ s.keeps c t := by
  have k : t.keeps [.cadence, .smoke, .control, .sound, .store, .counters, .link] t.syntheticStep := by
    simp only [State.syntheticStep]
    (repeat' split) <;> simp
  exact keeps_congr k h

/-- `revolutionExpiry` changes no part but cadence, smoke, control, sound, store, counters, link. -/
@[simp] theorem revolutionExpiry_keeps {c : List Part} (s t : State) (h : ([.cadence, .smoke, .control, .sound, .store, .counters, .link] : List Part) ⊆ c) :
    s.keeps c t.revolutionExpiry ↔ s.keeps c t := by
  have k : t.keeps [.cadence, .smoke, .control, .sound, .store, .counters, .link] t.revolutionExpiry := by
    simp only [State.revolutionExpiry]
    (repeat' split) <;> simp
  exact keeps_congr k h

/-- `beginSynthetic` changes no part but cadence, smoke, control, sound, store, counters, link. -/
@[simp] theorem beginSynthetic_keeps {c : List Part} (s t : State) (h : ([.cadence, .smoke, .control, .sound, .store, .counters, .link] : List Part) ⊆ c) :
    s.keeps c t.beginSynthetic ↔ s.keeps c t := by
  have k : t.keeps [.cadence, .smoke, .control, .sound, .store, .counters, .link] t.beginSynthetic := by
    simp only [State.beginSynthetic]
    (repeat' split) <;> simp
  exact keeps_congr k h

/-- `watchExpiry` changes no part but cadence, smoke, control, sound, store, counters, link. -/
@[simp] theorem watchExpiry_keeps {c : List Part} (s t : State) (h : ([.cadence, .smoke, .control, .sound, .store, .counters, .link] : List Part) ⊆ c) :
    s.keeps c t.watchExpiry ↔ s.keeps c t := by
  have k : t.keeps [.cadence, .smoke, .control, .sound, .store, .counters, .link] t.watchExpiry := by
    simp only [State.watchExpiry]
    (repeat' split) <;> simp
  exact keeps_congr k h

/-- `watchOverdue` changes no part but cadence, smoke, control, sound, store, counters, link. -/
@[simp] theorem watchOverdue_keeps {c : List Part} (s t : State) (h : ([.cadence, .smoke, .control, .sound, .store, .counters, .link] : List Part) ⊆ c) :
    s.keeps c t.watchOverdue ↔ s.keeps c t := by
  have k : t.keeps [.cadence, .smoke, .control, .sound, .store, .counters, .link] t.watchOverdue := by
    simp only [State.watchOverdue]
    (repeat' split) <;> simp
  exact keeps_congr k h

/-- `cadenceStep` changes no part but cadence, smoke, control, sound, store, counters, link. -/
@[simp] theorem cadenceStep_keeps {c : List Part} (s t : State) (h : ([.cadence, .smoke, .control, .sound, .store, .counters, .link] : List Part) ⊆ c) :
    s.keeps c t.cadenceStep ↔ s.keeps c t := by
  have k : t.keeps [.cadence, .smoke, .control, .sound, .store, .counters, .link] t.cadenceStep := by
    simp only [State.cadenceStep]
    simp
  exact keeps_congr k h

/-! ## Light -/

/-- `lightCount` changes no part but light. -/
@[simp] theorem lightCount_keeps {c : List Part} (s t : State) (h : ([.light] : List Part) ⊆ c) :
    s.keeps c t.lightCount ↔ s.keeps c t := by
  have k : t.keeps [.light] t.lightCount := by
    simp only [State.lightCount]
    (repeat' split) <;> simp
  exact keeps_congr k h

/-- `ditchStep` changes no part but light. -/
@[simp] theorem ditchStep_keeps {c : List Part} (s t : State) (h : ([.light] : List Part) ⊆ c) :
    s.keeps c t.ditchStep ↔ s.keeps c t := by
  have k : t.keeps [.light] t.ditchStep := by
    simp only [State.ditchStep]
    (repeat' split) <;> simp
  exact keeps_congr k h

/-- `lampStep` changes no part but light. -/
@[simp] theorem lampStep_keeps {c : List Part} (s t : State) (h : ([.light] : List Part) ⊆ c) :
    s.keeps c t.lampStep ↔ s.keeps c t := by
  have k : t.keeps [.light] t.lampStep := by
    simp only [State.lampStep]
    simp
  exact keeps_congr k h

/-- `lightUpdate` changes no part but light. -/
@[simp] theorem lightUpdate_keeps {c : List Part} (s t : State) (h : ([.light] : List Part) ⊆ c) :
    s.keeps c t.lightUpdate ↔ s.keeps c t := by
  have k : t.keeps [.light] t.lightUpdate := by
    simp only [State.lightUpdate]
    simp
  exact keeps_congr k h

/-- `strobeExpiry` changes no part but light. -/
@[simp] theorem strobeExpiry_keeps {c : List Part} (s t : State) (h : ([.light] : List Part) ⊆ c) :
    s.keeps c t.strobeExpiry ↔ s.keeps c t := by
  have k : t.keeps [.light] t.strobeExpiry := by
    simp only [State.strobeExpiry]
    (repeat' split) <;> simp
  exact keeps_congr k h

/-- `lampsOut` changes no part but light. -/
@[simp] theorem lampsOut_keeps {c : List Part} (s t : State) (h : ([.light] : List Part) ⊆ c) :
    s.keeps c t.lampsOut ↔ s.keeps c t := by
  have k : t.keeps [.light] t.lampsOut := by
    simp only [State.lampsOut]
    simp
  exact keeps_congr k h

/-- `lightConfig` changes no part but light. -/
@[simp] theorem lightConfig_keeps {c : List Part} (s t : State) (h : ([.light] : List Part) ⊆ c) :
    s.keeps c t.lightConfig ↔ s.keeps c t := by
  have k : t.keeps [.light] t.lightConfig := by
    simp only [State.lightConfig]
    simp
  exact keeps_congr k h

/-! ## Supply -/

/-- `publishCap` changes no part but supply, control. -/
@[simp] theorem publishCap_keeps {c : List Part} (s t : State) (k : Option Nat) (h : ([.supply, .control] : List Part) ⊆ c) :
    s.keeps c (t.publishCap k) ↔ s.keeps c t := by
  have k : t.keeps [.supply, .control] (t.publishCap k) := by
    simp only [State.publishCap]
    simp
  exact keeps_congr k h

/-- `withSupply` changes no part but supply. -/
@[simp] theorem withSupply_keeps {c : List Part} (s t : State) (u : Supply) (h : ([.supply] : List Part) ⊆ c) :
    s.keeps c (t.withSupply u) ↔ s.keeps c t := by
  have k : t.keeps [.supply] (t.withSupply u) := by
    simp only [State.withSupply]
    simp
  exact keeps_congr k h

/-- `enterRideThrough` changes no part but supply, control, counters, bridge, smoke. -/
@[simp] theorem enterRideThrough_keeps {c : List Part} (s t : State) (h : ([.supply, .control, .counters, .bridge, .smoke] : List Part) ⊆ c) :
    s.keeps c t.enterRideThrough ↔ s.keeps c t := by
  have k : t.keeps [.supply, .control, .counters, .bridge, .smoke] t.enterRideThrough := by
    simp only [State.enterRideThrough]
    (repeat' split) <;> simp
  exact keeps_congr k h

/-- `enterNormal` changes no part but supply, control, bridge, smoke, sound, store. -/
@[simp] theorem enterNormal_keeps {c : List Part} (s t : State) (h : ([.supply, .control, .bridge, .smoke, .sound, .store] : List Part) ⊆ c) :
    s.keeps c t.enterNormal ↔ s.keeps c t := by
  have k : t.keeps [.supply, .control, .bridge, .smoke, .sound, .store] t.enterNormal := by
    simp only [State.enterNormal]
    (repeat' split) <;> simp
  exact keeps_congr k h

/-- `enterDepleted` changes no part but supply, control, counters, motion, bridge, link, smoke, sound, store, light. -/
@[simp] theorem enterDepleted_keeps {c : List Part} (s t : State) (h : ([.supply, .control, .counters, .motion, .bridge, .link, .smoke, .sound, .store, .light] : List Part) ⊆ c) :
    s.keeps c t.enterDepleted ↔ s.keeps c t := by
  have k : t.keeps [.supply, .control, .counters, .motion, .bridge, .link, .smoke, .sound, .store, .light] t.enterDepleted := by
    simp only [State.enterDepleted]
    simp
  exact keeps_congr k h

/-- `sampleNormal` changes no part but supply, control, counters, bridge, smoke. -/
@[simp] theorem sampleNormal_keeps {c : List Part} (s t : State) (h : ([.supply, .control, .counters, .bridge, .smoke] : List Part) ⊆ c) :
    s.keeps c (t.sampleNormal).1 ↔ s.keeps c t := by
  have k : t.keeps [.supply, .control, .counters, .bridge, .smoke] (t.sampleNormal).1 := by
    simp only [State.sampleNormal]
    (repeat' split) <;> simp
  exact keeps_congr k h

/-- `sampleRideThrough` changes no part but supply, control, counters, motion, bridge, link, smoke, sound, store, light. -/
@[simp] theorem sampleRideThrough_keeps {c : List Part} (s t : State) (h : ([.supply, .control, .counters, .motion, .bridge, .link, .smoke, .sound, .store, .light] : List Part) ⊆ c) :
    s.keeps c (t.sampleRideThrough).1 ↔ s.keeps c t := by
  have k : t.keeps [.supply, .control, .counters, .motion, .bridge, .link, .smoke, .sound, .store, .light] (t.sampleRideThrough).1 := by
    simp only [State.sampleRideThrough]
    (repeat' split) <;> simp
  exact keeps_congr k h

/-- `sampleDepleted` changes no part but supply, control, bridge, smoke, sound, store. -/
@[simp] theorem sampleDepleted_keeps {c : List Part} (s t : State) (h : ([.supply, .control, .bridge, .smoke, .sound, .store] : List Part) ⊆ c) :
    s.keeps c (t.sampleDepleted).1 ↔ s.keeps c t := by
  have k : t.keeps [.supply, .control, .bridge, .smoke, .sound, .store] (t.sampleDepleted).1 := by
    simp only [State.sampleDepleted]
    (repeat' split) <;> simp
  exact keeps_congr k h

/-- `sampleState` changes no part but supply, control, counters, motion, bridge, link, smoke, sound, store, light. -/
@[simp] theorem sampleState_keeps {c : List Part} (s t : State) (h : ([.supply, .control, .counters, .motion, .bridge, .link, .smoke, .sound, .store, .light] : List Part) ⊆ c) :
    s.keeps c (t.sampleState).1 ↔ s.keeps c t := by
  have k : t.keeps [.supply, .control, .counters, .motion, .bridge, .link, .smoke, .sound, .store, .light] (t.sampleState).1 := by
    simp only [State.sampleState]
    (repeat' split) <;> simp
  exact keeps_congr k h

/-- `shedStep` changes no part but supply, smoke. -/
@[simp] theorem shedStep_keeps {c : List Part} (s t : State) (b : Bool) (h : ([.supply, .smoke] : List Part) ⊆ c) :
    s.keeps c (t.shedStep b) ↔ s.keeps c t := by
  have k : t.keeps [.supply, .smoke] (t.shedStep b) := by
    simp only [State.shedStep]
    (repeat' split) <;> simp
  exact keeps_congr k h

/-- `notifySupply` changes no part but link. -/
@[simp] theorem notifySupply_keeps {c : List Part} (s t : State) (k : SupplyCause) (h : ([.link] : List Part) ⊆ c) :
    s.keeps c (t.notifySupply k) ↔ s.keeps c t := by
  have k : t.keeps [.link] (t.notifySupply k) := by
    simp only [State.notifySupply]
    simp
  exact keeps_congr k h

/-- `supplyNotice` changes no part but link. -/
@[simp] theorem supplyNotice_keeps {c : List Part} (s t : State) (k : Option SupplyCause) (n : Nat) (h : ([.link] : List Part) ⊆ c) :
    s.keeps c (t.supplyNotice k n) ↔ s.keeps c t := by
  have k : t.keeps [.link] (t.supplyNotice k n) := by
    simp only [State.supplyNotice]
    (repeat' split) <;> simp
  exact keeps_congr k h

/-- `supplySample` changes no part but supply, control, counters, motion, bridge, link, smoke, sound, store, light. -/
@[simp] theorem supplySample_keeps {c : List Part} (s t : State) (v : Int) (n m : Nat) (h : ([.supply, .control, .counters, .motion, .bridge, .link, .smoke, .sound, .store, .light] : List Part) ⊆ c) :
    s.keeps c (t.supplySample v n m) ↔ s.keeps c t := by
  have k : t.keeps [.supply, .control, .counters, .motion, .bridge, .link, .smoke, .sound, .store, .light] (t.supplySample v n m) := by
    simp only [State.supplySample]
    simp
  exact keeps_congr k h

/-- `budgetStep` changes no part but supply, motion. -/
@[simp] theorem budgetStep_keeps {c : List Part} (s t : State) (h : ([.supply, .motion] : List Part) ⊆ c) :
    s.keeps c t.budgetStep ↔ s.keeps c t := by
  have k : t.keeps [.supply, .motion] t.budgetStep := by
    simp only [State.budgetStep]
    first
    | (simp; done)
    | refine ⟨?_, ?_, ?_, ?_, ?_, ?_, ?_, ?_, ?_, ?_, ?_, ?_, ?_, ?_, ?_, ?_, ?_, ?_, ?_, ?_⟩ <;>
      first | exact Or.inr rfl | exact Or.inl (by decide)
  exact keeps_congr k h

/-- `supplyConfig` changes no part but supply. -/
@[simp] theorem supplyConfig_keeps {c : List Part} (s t : State) (h : ([.supply] : List Part) ⊆ c) :
    s.keeps c t.supplyConfig ↔ s.keeps c t := by
  have k : t.keeps [.supply] t.supplyConfig := by
    simp only [State.supplyConfig]
    simp
  exact keeps_congr k h

/-- `supplyRun` changes no part but supply, link. -/
@[simp] theorem supplyRun_keeps {c : List Part} (s t : State) (h : ([.supply, .link] : List Part) ⊆ c) :
    s.keeps c t.supplyRun ↔ s.keeps c t := by
  have k : t.keeps [.supply, .link] t.supplyRun := by
    simp only [State.supplyRun]
    (repeat' split) <;> simp
  exact keeps_congr k h

/-! ## Operator Control -/

/-- `changeSource` changes no part but control, link. -/
@[simp] theorem changeSource_keeps {c : List Part} (s t : State) (x : Source) (k : ControlCause) (h : ([.control, .link] : List Part) ⊆ c) :
    s.keeps c (t.changeSource x k) ↔ s.keeps c t := by
  have k : t.keeps [.control, .link] (t.changeSource x k) := by
    simp only [State.changeSource]
    (repeat' split) <;> simp
  exact keeps_congr k h

/-- `changeOwner` changes no part but control, link. -/
@[simp] theorem changeOwner_keeps {c : List Part} (s t : State) (o : Option Nat) (k : ControlCause) (h : ([.control, .link] : List Part) ⊆ c) :
    s.keeps c (t.changeOwner o k) ↔ s.keeps c t := by
  have k : t.keeps [.control, .link] (t.changeOwner o k) := by
    simp only [State.changeOwner]
    (repeat' split) <;> simp
  exact keeps_congr k h

/-- `renewLease` changes no part but control. -/
@[simp] theorem renewLease_keeps {c : List Part} (s t : State) (h : ([.control] : List Part) ⊆ c) :
    s.keeps c t.renewLease ↔ s.keeps c t := by
  have k : t.keeps [.control] t.renewLease := by
    simp only [State.renewLease]
    simp
  exact keeps_congr k h

/-- `emergencyStop` changes no part but motion, bridge, control, link, smoke. -/
@[simp] theorem emergencyStop_keeps {c : List Part} (s t : State) (o : EstopOrigin) (h : ([.motion, .bridge, .control, .link, .smoke] : List Part) ⊆ c) :
    s.keeps c (t.emergencyStop o) ↔ s.keeps c t := by
  have k : t.keeps [.motion, .bridge, .control, .link, .smoke] (t.emergencyStop o) := by
    simp only [State.emergencyStop]
    (repeat' split) <;> simp
  exact keeps_congr k h

/-- `lossAction` changes no part but motion, bridge, control, link, smoke. -/
@[simp] theorem lossAction_keeps {c : List Part} (s t : State) (h : ([.motion, .bridge, .control, .link, .smoke] : List Part) ⊆ c) :
    s.keeps c t.lossAction ↔ s.keeps c t := by
  have k : t.keeps [.motion, .bridge, .control, .link, .smoke] t.lossAction := by
    simp only [State.lossAction]
    (repeat' split) <;> simp
  exact keeps_congr k h

/-- `loseSource` changes no part but motion, bridge, control, link, smoke. -/
@[simp] theorem loseSource_keeps {c : List Part} (s t : State) (k : ControlCause) (h : ([.motion, .bridge, .control, .link, .smoke] : List Part) ⊆ c) :
    s.keeps c (t.loseSource k) ↔ s.keeps c t := by
  have k : t.keeps [.motion, .bridge, .control, .link, .smoke] (t.loseSource k) := by
    simp only [State.loseSource]
    simp
  exact keeps_congr k h

/-- `zeroThrottle` changes no part but motion, bridge, control, link, smoke. -/
@[simp] theorem zeroThrottle_keeps {c : List Part} (s t : State) (h : ([.motion, .bridge, .control, .link, .smoke] : List Part) ⊆ c) :
    s.keeps c t.zeroThrottle ↔ s.keeps c t := by
  have k : t.keeps [.motion, .bridge, .control, .link, .smoke] t.zeroThrottle := by
    simp only [State.zeroThrottle]
    (repeat' split) <;> simp
  exact keeps_congr k h

/-- `takeValues` changes no part but control, link. -/
@[simp] theorem takeValues_keeps {c : List Part} (s t : State) (n : Nat) (d : Direction) (h : ([.control, .link] : List Part) ⊆ c) :
    s.keeps c (t.takeValues n d) ↔ s.keeps c t := by
  have k : t.keeps [.control, .link] (t.takeValues n d) := by
    simp only [State.takeValues]
    (repeat' split) <;> simp
  exact keeps_congr k h

/-- `takeThrottle` changes no part but motion, bridge, control, link, smoke. -/
@[simp] theorem takeThrottle_keeps {c : List Part} (s t : State) (n : Nat) (d : Direction) (h : ([.motion, .bridge, .control, .link, .smoke] : List Part) ⊆ c) :
    s.keeps c (t.takeThrottle n d) ↔ s.keeps c t := by
  have k : t.keeps [.motion, .bridge, .control, .link, .smoke] (t.takeThrottle n d) := by
    simp only [State.takeThrottle]
    (repeat' split) <;> simp
  exact keeps_congr k h

/-- `driveHost` changes no part but motion, bridge, control, link, smoke. -/
@[simp] theorem driveHost_keeps {c : List Part} (s t : State) (n : Nat) (d : Direction) (h : ([.motion, .bridge, .control, .link, .smoke] : List Part) ⊆ c) :
    s.keeps c (t.driveHost n d) ↔ s.keeps c t := by
  have k : t.keeps [.motion, .bridge, .control, .link, .smoke] (t.driveHost n d) := by
    simp only [State.driveHost]
    (repeat' split) <;> simp
  exact keeps_congr k h

/-- `releaseHost` changes no part but motion, bridge, control, link, smoke. -/
@[simp] theorem releaseHost_keeps {c : List Part} (s t : State) (k : ControlCause) (h : ([.motion, .bridge, .control, .link, .smoke] : List Part) ⊆ c) :
    s.keeps c (t.releaseHost k) ↔ s.keeps c t := by
  have k : t.keeps [.motion, .bridge, .control, .link, .smoke] (t.releaseHost k) := by
    simp only [State.releaseHost]
    (repeat' split) <;> simp
  exact keeps_congr k h

/-- `dropOwner` changes no part but motion, bridge, control, link, smoke. -/
@[simp] theorem dropOwner_keeps {c : List Part} (s t : State) (k : ControlCause) (h : ([.motion, .bridge, .control, .link, .smoke] : List Part) ⊆ c) :
    s.keeps c (t.dropOwner k) ↔ s.keeps c t := by
  have k : t.keeps [.motion, .bridge, .control, .link, .smoke] (t.dropOwner k) := by
    simp only [State.dropOwner]
    (repeat' split) <;> simp
  exact keeps_congr k h

/-- `leaseExpiry` changes no part but motion, bridge, control, link, smoke. -/
@[simp] theorem leaseExpiry_keeps {c : List Part} (s t : State) (h : ([.motion, .bridge, .control, .link, .smoke] : List Part) ⊆ c) :
    s.keeps c t.leaseExpiry ↔ s.keeps c t := by
  have k : t.keeps [.motion, .bridge, .control, .link, .smoke] t.leaseExpiry := by
    simp only [State.leaseExpiry]
    (repeat' split) <;> simp
  exact keeps_congr k h

/-- `grant` changes no part but control, link. -/
@[simp] theorem grant_keeps {c : List Part} (s t : State) (n : Nat) (h : ([.control, .link] : List Part) ⊆ c) :
    s.keeps c (t.grant n) ↔ s.keeps c t := by
  have k : t.keeps [.control, .link] (t.grant n) := by
    simp only [State.grant]
    (repeat' split) <;> simp
  exact keeps_congr k h

/-- `select` changes no part but control, link, counters. -/
@[simp] theorem select_keeps {c : List Part} (s t : State) (n : Nat) (h : ([.control, .link, .counters] : List Part) ⊆ c) :
    s.keeps c (t.select n) ↔ s.keeps c t := by
  have k : t.keeps [.control, .link, .counters] (t.select n) := by
    simp only [State.select]
    (repeat' split) <;> simp
  exact keeps_congr k h

/-- `notOwner` changes no part but counters. -/
@[simp] theorem notOwner_keeps {c : List Part} (s t : State) (h : ([.counters] : List Part) ⊆ c) :
    s.keeps c t.notOwner ↔ s.keeps c t := by
  have k : t.keeps [.counters] t.notOwner := by
    simp only [State.notOwner]
    simp
  exact keeps_congr k h

/-- `releasePacket` changes no part but motion, bridge, control, link, smoke, counters. -/
@[simp] theorem releasePacket_keeps {c : List Part} (s t : State) (n : Nat) (h : ([.motion, .bridge, .control, .link, .smoke, .counters] : List Part) ⊆ c) :
    s.keeps c (t.releasePacket n) ↔ s.keeps c t := by
  have k : t.keeps [.motion, .bridge, .control, .link, .smoke, .counters] (t.releasePacket n) := by
    simp only [State.releasePacket]
    (repeat' split) <;> simp
  exact keeps_congr k h

/-- `ownerThrottle` changes no part but motion, bridge, control, link, smoke, counters. -/
@[simp] theorem ownerThrottle_keeps {c : List Part} (s t : State) (pc : PacketClass) (n : Nat) (d : Direction) (h : ([.motion, .bridge, .control, .link, .smoke, .counters] : List Part) ⊆ c) :
    s.keeps c (t.ownerThrottle pc n d) ↔ s.keeps c t := by
  have k : t.keeps [.motion, .bridge, .control, .link, .smoke, .counters] (t.ownerThrottle pc n d) := by
    simp only [State.ownerThrottle]
    (repeat' split) <;> simp
  exact keeps_congr k h

/-- `throttlePacket` changes no part but motion, bridge, control, link, smoke, counters. -/
@[simp] theorem throttlePacket_keeps {c : List Part} (s t : State) (m : Nat) (pc : PacketClass) (n : Nat) (d : Direction) (h : ([.motion, .bridge, .control, .link, .smoke, .counters] : List Part) ⊆ c) :
    s.keeps c (t.throttlePacket m pc n d) ↔ s.keeps c t := by
  have k : t.keeps [.motion, .bridge, .control, .link, .smoke, .counters] (t.throttlePacket m pc n d) := by
    simp only [State.throttlePacket]
    (repeat' split) <;> simp
  exact keeps_congr k h

/-- `writeFunction` changes no part but control, sound, store, counters, link. -/
@[simp] theorem writeFunction_keeps {c : List Part} (s t : State) (f : Fin 32) (b : Bool) (w : Writer) (h : ([.control, .sound, .store, .counters, .link] : List Part) ⊆ c) :
    s.keeps c (t.writeFunction f b w) ↔ s.keeps c t := by
  have k : t.keeps [.control, .sound, .store, .counters, .link] (t.writeFunction f b w) := by
    simp only [State.writeFunction]
    (repeat' split) <;> simp
  exact keeps_congr k h

/-- `refreshFlags` changes no part but control, link, smoke. -/
@[simp] theorem refreshFlags_keeps {c : List Part} (s t : State) (h : ([.control, .link, .smoke] : List Part) ⊆ c) :
    s.keeps c t.refreshFlags ↔ s.keeps c t := by
  have k : t.keeps [.control, .link, .smoke] t.refreshFlags := by
    simp only [State.refreshFlags]
    simp
  exact keeps_congr k h

/-- `writeGroup` changes no part but control, sound, store, counters, link. -/
@[simp] theorem writeGroup_keeps {c : List Part} (s t : State) (b : Byte) (l : List (Fin 32)) (h : ([.control, .sound, .store, .counters, .link] : List Part) ⊆ c) :
    s.keeps c (t.writeGroup b l) ↔ s.keeps c t := by
  have k : t.keeps [.control, .sound, .store, .counters, .link] (t.writeGroup b l) := by
    induction l generalizing t with
    | nil => simp [State.writeGroup]
    | cons x l ih =>
      have ih' : ∀ v w : State, v.keeps [.control, .sound, .store, .counters, .link] (w.writeGroup b l) ↔ v.keeps [.control, .sound, .store, .counters, .link] w := fun v w => keeps_congr (ih w) (by simp)
      simp only [State.writeGroup]
      simp [ih']
  exact keeps_congr k h

/-- `functionsPacket` changes no part but control, sound, store, counters, link. -/
@[simp] theorem functionsPacket_keeps {c : List Part} (s t : State) (m n : Nat) (b : Byte) (h : ([.control, .sound, .store, .counters, .link] : List Part) ⊆ c) :
    s.keeps c (t.functionsPacket m n b) ↔ s.keeps c t := by
  have k : t.keeps [.control, .sound, .store, .counters, .link] (t.functionsPacket m n b) := by
    simp only [State.functionsPacket]
    (repeat' split) <;> simp
  exact keeps_congr k h

/-- `runAction` changes no part but control, sound, store, counters, link. -/
@[simp] theorem runAction_keeps {c : List Part} (s t : State) (n : Nat) (e : BeaconEntry) (h : ([.control, .sound, .store, .counters, .link] : List Part) ⊆ c) :
    s.keeps c (t.runAction n e).1 ↔ s.keeps c t := by
  have k : t.keeps [.control, .sound, .store, .counters, .link] (t.runAction n e).1 := by
    simp only [State.runAction]
    (repeat' split) <;> simp
  exact keeps_congr k h

/-- `setBeacon` changes no part but control. -/
@[simp] theorem setBeacon_keeps {c : List Part} (s t : State) (k : Fin 16) (r : BeaconRuntime) (h : ([.control] : List Part) ⊆ c) :
    s.keeps c (t.setBeacon k r) ↔ s.keeps c t := by
  have k : t.keeps [.control] (t.setBeacon k r) := by
    simp only [State.setBeacon]
    simp
  exact keeps_congr k h

/-- `hearEntries` changes no part but control, sound, store, counters, link. -/
@[simp] theorem hearEntries_keeps {c : List Part} (s t : State) (n : Nat) (l : List (Fin 16)) (h : ([.control, .sound, .store, .counters, .link] : List Part) ⊆ c) :
    s.keeps c (t.hearEntries n l).1 ↔ s.keeps c t := by
  have k : t.keeps [.control, .sound, .store, .counters, .link] (t.hearEntries n l).1 := by
    induction l generalizing t with
    | nil => simp [State.hearEntries]
    | cons x l ih =>
      have ih' : ∀ v w : State, v.keeps [.control, .sound, .store, .counters, .link] (w.hearEntries n l).1 ↔ v.keeps [.control, .sound, .store, .counters, .link] w := fun v w => keeps_congr (ih w) (by simp)
      simp only [State.hearEntries]
      (repeat' split) <;> simp [ih']
  exact keeps_congr k h

/-- `beaconPacket` changes no part but control, sound, store, counters, link. -/
@[simp] theorem beaconPacket_keeps {c : List Part} (s t : State) (n : Nat) (h : ([.control, .sound, .store, .counters, .link] : List Part) ⊆ c) :
    s.keeps c (t.beaconPacket n) ↔ s.keeps c t := by
  have k : t.keeps [.control, .sound, .store, .counters, .link] (t.beaconPacket n) := by
    simp only [State.beaconPacket]
    (repeat' split) <;> simp
  exact keeps_congr k h

/-- `rearm` changes no part but control. -/
@[simp] theorem rearm_keeps {c : List Part} (s t : State) (k : Fin 16) (h : ([.control] : List Part) ⊆ c) :
    s.keeps c (t.rearm k) ↔ s.keeps c t := by
  have k : t.keeps [.control] (t.rearm k) := by
    simp only [State.rearm]
    (repeat' split) <;> simp
  exact keeps_congr k h

/-- `takeNext` changes no part but control, radio. -/
@[simp] theorem takeNext_keeps {c : List Part} (s t : State) (h : ([.control, .radio] : List Part) ⊆ c) :
    s.keeps c t.takeNext ↔ s.keeps c t := by
  have k : t.keeps [.control, .radio] t.takeNext := by
    simp only [State.takeNext]
    (repeat' split) <;>
    first
    | (simp; done)
    | refine ⟨?_, ?_, ?_, ?_, ?_, ?_, ?_, ?_, ?_, ?_, ?_, ?_, ?_, ?_, ?_, ?_, ?_, ?_, ?_, ?_⟩ <;>
      first | exact Or.inr rfl | exact Or.inl (by decide)
  exact keeps_congr k h

/-- `interpret` changes no part but motion, bridge, smoke, control, sound, store, counters, link. -/
@[simp] theorem interpret_keeps {c : List Part} (s t : State) (e : QueueEntry) (h : ([.motion, .bridge, .smoke, .control, .sound, .store, .counters, .link] : List Part) ⊆ c) :
    s.keeps c (t.interpret e) ↔ s.keeps c t := by
  have k : t.keeps [.motion, .bridge, .smoke, .control, .sound, .store, .counters, .link] (t.interpret e) := by
    simp only [State.interpret]
    (repeat' split) <;> simp
  exact keeps_congr k h

/-- `interpretationComplete` changes no part but radio, motion, bridge, smoke, control, sound, store, counters, link. -/
@[simp] theorem interpretationComplete_keeps {c : List Part} (s t : State) (h : ([.radio, .motion, .bridge, .smoke, .control, .sound, .store, .counters, .link] : List Part) ⊆ c) :
    s.keeps c t.interpretationComplete ↔ s.keeps c t := by
  have k : t.keeps [.radio, .motion, .bridge, .smoke, .control, .sound, .store, .counters, .link] t.interpretationComplete := by
    simp only [State.interpretationComplete]
    (repeat' split) <;> simp
  exact keeps_congr k h

/-- `setFunction` changes no part but smoke, control, sound, store, counters, link. -/
@[simp] theorem setFunction_keeps {c : List Part} (s t : State) (n : Nat) (b : Bool) (h : ([.smoke, .control, .sound, .store, .counters, .link] : List Part) ⊆ c) :
    s.keeps c (t.setFunction n b) ↔ s.keeps c t := by
  have k : t.keeps [.smoke, .control, .sound, .store, .counters, .link] (t.setFunction n b) := by
    simp only [State.setFunction]
    simp
  exact keeps_congr k h

/-- `controlConfig` changes no part but control, link. -/
@[simp] theorem controlConfig_keeps {c : List Part} (s t : State) (h : ([.control, .link] : List Part) ⊆ c) :
    s.keeps c t.controlConfig ↔ s.keeps c t := by
  have k : t.keeps [.control, .link] t.controlConfig := by
    simp only [State.controlConfig]
    first
    | (simp; done)
    | refine ⟨?_, ?_, ?_, ?_, ?_, ?_, ?_, ?_, ?_, ?_, ?_, ?_, ?_, ?_, ?_, ?_, ?_, ?_, ?_, ?_⟩ <;>
      first | exact Or.inr rfl | exact Or.inl (by decide)
  exact keeps_congr k h

/-! ## Radio Intake -/

/-- `accepted` changes no part but counters. -/
@[simp] theorem accepted_keeps {c : List Part} (s t : State) (h : ([.counters] : List Part) ⊆ c) :
    s.keeps c t.accepted ↔ s.keeps c t := by
  have k : t.keeps [.counters] t.accepted := by
    simp only [State.accepted]
    simp
  exact keeps_congr k h

/-- `overflow` changes no part but counters, radio, link. -/
@[simp] theorem overflow_keeps {c : List Part} (s t : State) (e : QueueEntry) (h : ([.counters, .radio, .link] : List Part) ⊆ c) :
    s.keeps c (t.overflow e) ↔ s.keeps c t := by
  have k : t.keeps [.counters, .radio, .link] (t.overflow e) := by
    simp only [State.overflow]
    (repeat' split) <;> simp
  exact keeps_congr k h

/-- `enqueue` changes no part but counters, radio, link, control. -/
@[simp] theorem enqueue_keeps {c : List Part} (s t : State) (e : QueueEntry) (h : ([.counters, .radio, .link, .control] : List Part) ⊆ c) :
    s.keeps c (t.enqueue e) ↔ s.keeps c t := by
  have k : t.keeps [.counters, .radio, .link, .control] (t.enqueue e) := by
    simp only [State.enqueue]
    (repeat' split) <;> simp
  exact keeps_congr k h

/-- `notForMe` changes no part but counters. -/
@[simp] theorem notForMe_keeps {c : List Part} (s t : State) (h : ([.counters] : List Part) ⊆ c) :
    s.keeps c t.notForMe ↔ s.keeps c t := by
  have k : t.keeps [.counters] t.notForMe := by
    simp only [State.notForMe]
    simp
  exact keeps_congr k h

/-- `judgePacket` changes no part but counters, radio, link, control. -/
@[simp] theorem judgePacket_keeps {c : List Part} (s t : State) (p : AirPacket) (pc : PacketClass) (k : Packet) (h : ([.counters, .radio, .link, .control] : List Part) ⊆ c) :
    s.keeps c (t.judgePacket p pc k) ↔ s.keeps c t := by
  have k : t.keeps [.counters, .radio, .link, .control] (t.judgePacket p pc k) := by
    simp only [State.judgePacket]
    (repeat' split) <;> simp
  exact keeps_congr k h

/-- `routePacket` changes no part but counters, radio, link, control, motion, bridge, smoke. -/
@[simp] theorem routePacket_keeps {c : List Part} (s t : State) (p : AirPacket) (pc : PacketClass) (h : ([.counters, .radio, .link, .control, .motion, .bridge, .smoke] : List Part) ⊆ c) :
    s.keeps c (t.routePacket p pc) ↔ s.keeps c t := by
  have k : t.keeps [.counters, .radio, .link, .control, .motion, .bridge, .smoke] (t.routePacket p pc) := by
    simp only [State.routePacket]
    (repeat' split) <;> simp
  exact keeps_congr k h

/-- `filterPacket` changes no part but counters, radio, link, control, motion, bridge, smoke. -/
@[simp] theorem filterPacket_keeps {c : List Part} (s t : State) (p : AirPacket) (h : ([.counters, .radio, .link, .control, .motion, .bridge, .smoke] : List Part) ⊆ c) :
    s.keeps c (t.filterPacket p) ↔ s.keeps c t := by
  have k : t.keeps [.counters, .radio, .link, .control, .motion, .bridge, .smoke] (t.filterPacket p) := by
    simp only [State.filterPacket]
    (repeat' split) <;> simp
  exact keeps_congr k h

/-- `burst` changes no part but counters, radio, link, control, motion, bridge, smoke. -/
@[simp] theorem burst_keeps {c : List Part} (s t : State) (l : List Byte) (h : ([.counters, .radio, .link, .control, .motion, .bridge, .smoke] : List Part) ⊆ c) :
    s.keeps c (t.burst l) ↔ s.keeps c t := by
  have k : t.keeps [.counters, .radio, .link, .control, .motion, .bridge, .smoke] (t.burst l) := by
    simp only [State.burst]
    (repeat' split) <;> simp
  exact keeps_congr k h

/-- `assemble` changes no part but radio. -/
@[simp] theorem assemble_keeps {c : List Part} (s t : State) (a : Assembler) (h : ([.radio] : List Part) ⊆ c) :
    s.keeps c (t.assemble a) ↔ s.keeps c t := by
  have k : t.keeps [.radio] (t.assemble a) := by
    simp only [State.assemble]
    simp
  exact keeps_congr k h

/-- `truncated` changes no part but counters. -/
@[simp] theorem truncated_keeps {c : List Part} (s t : State) (b : Bool) (h : ([.counters] : List Part) ⊆ c) :
    s.keeps c (t.truncated b) ↔ s.keeps c t := by
  have k : t.keeps [.counters] (t.truncated b) := by
    simp only [State.truncated]
    (repeat' split) <;> simp
  exact keeps_congr k h

/-- `radioByte` changes no part but counters, radio, link, control, motion, bridge, smoke. -/
@[simp] theorem radioByte_keeps {c : List Part} (s t : State) (x : Byte) (b : Bool) (h : ([.counters, .radio, .link, .control, .motion, .bridge, .smoke] : List Part) ⊆ c) :
    s.keeps c (t.radioByte x b) ↔ s.keeps c t := by
  have k : t.keeps [.counters, .radio, .link, .control, .motion, .bridge, .smoke] (t.radioByte x b) := by
    simp only [State.radioByte]
    (repeat' split) <;> simp
  exact keeps_congr k h

/-- `radioGap` changes no part but counters, radio. -/
@[simp] theorem radioGap_keeps {c : List Part} (s t : State) (h : ([.counters, .radio] : List Part) ⊆ c) :
    s.keeps c t.radioGap ↔ s.keeps c t := by
  have k : t.keeps [.counters, .radio] t.radioGap := by
    simp only [State.radioGap]
    (repeat' split) <;> simp
  exact keeps_congr k h

/-- `freeDuplicate` changes no part but radio. -/
@[simp] theorem freeDuplicate_keeps {c : List Part} (s t : State) (k : Fin 8) (h : ([.radio] : List Part) ⊆ c) :
    s.keeps c (t.freeDuplicate k) ↔ s.keeps c t := by
  have k : t.keeps [.radio] (t.freeDuplicate k) := by
    simp only [State.freeDuplicate]
    (repeat' split) <;> simp
  exact keeps_congr k h

/-- `radioConfig` changes no part but radio. -/
@[simp] theorem radioConfig_keeps {c : List Part} (s t : State) (h : ([.radio] : List Part) ⊆ c) :
    s.keeps c t.radioConfig ↔ s.keeps c t := by
  have k : t.keeps [.radio] t.radioConfig := by
    simp only [State.radioConfig]
    (repeat' split) <;> simp
  exact keeps_congr k h

/-! ## Tables, modes -/

/-- `withTables` changes no part but tables. -/
@[simp] theorem withTables_keeps {c : List Part} (s t : State) (t' : Tables) (h : ([.tables] : List Part) ⊆ c) :
    s.keeps c (t.withTables t') ↔ s.keeps c t := by
  have k : t.keeps [.tables] (t.withTables t') := by
    simp only [State.withTables]
    simp
  exact keeps_congr k h

/-- `motionEntry` changes no part but motion. -/
@[simp] theorem motionEntry_keeps {c : List Part} (s t : State) (h : ([.motion] : List Part) ⊆ c) :
    s.keeps c t.motionEntry ↔ s.keeps c t := by
  have k : t.keeps [.motion] t.motionEntry := by
    simp only [State.motionEntry]
    simp
  exact keeps_congr k h

/-- `cadenceEntry` changes no part but cadence. -/
@[simp] theorem cadenceEntry_keeps {c : List Part} (s t : State) (h : ([.cadence] : List Part) ⊆ c) :
    s.keeps c t.cadenceEntry ↔ s.keeps c t := by
  have k : t.keeps [.cadence] t.cadenceEntry := by
    simp only [State.cadenceEntry]
    simp
  exact keeps_congr k h

/-- `bridgeConfig` changes no part but bridge. -/
@[simp] theorem bridgeConfig_keeps {c : List Part} (s t : State) (h : ([.bridge] : List Part) ⊆ c) :
    s.keeps c t.bridgeConfig ↔ s.keeps c t := by
  have k : t.keeps [.bridge] t.bridgeConfig := by
    simp only [State.bridgeConfig]
    simp
  exact keeps_congr k h

/-- `bridgeRun` changes no part but bridge. -/
@[simp] theorem bridgeRun_keeps {c : List Part} (s t : State) (h : ([.bridge] : List Part) ⊆ c) :
    s.keeps c t.bridgeRun ↔ s.keeps c t := by
  have k : t.keeps [.bridge] t.bridgeRun := by
    simp only [State.bridgeRun]
    simp
  exact keeps_congr k h

/-- `smokeConfig` changes no part but smoke. -/
@[simp] theorem smokeConfig_keeps {c : List Part} (s t : State) (h : ([.smoke] : List Part) ⊆ c) :
    s.keeps c t.smokeConfig ↔ s.keeps c t := by
  have k : t.keeps [.smoke] t.smokeConfig := by
    simp only [State.smokeConfig]
    simp
  exact keeps_congr k h

/-- `smokeRun` changes no part but smoke. -/
@[simp] theorem smokeRun_keeps {c : List Part} (s t : State) (h : ([.smoke] : List Part) ⊆ c) :
    s.keeps c t.smokeRun ↔ s.keeps c t := by
  have k : t.keeps [.smoke] t.smokeRun := by
    simp only [State.smokeRun]
    simp
  exact keeps_congr k h

/-- `enterRun` changes no part but mode, motion, bridge, cadence, sound, store, supply, link, smoke. -/
@[simp] theorem enterRun_keeps {c : List Part} (s t : State) (h : ([.mode, .motion, .bridge, .cadence, .sound, .store, .supply, .link, .smoke] : List Part) ⊆ c) :
    s.keeps c t.enterRun ↔ s.keeps c t := by
  have k : t.keeps [.mode, .motion, .bridge, .cadence, .sound, .store, .supply, .link, .smoke] t.enterRun := by
    simp only [State.enterRun]
    simp
  exact keeps_congr k h

/-- `enterConfig` changes no part but mode, motion, bridge, cadence, radio, supply, control, link, sound, store, smoke, light. -/
@[simp] theorem enterConfig_keeps {c : List Part} (s t : State) (h : ([.mode, .motion, .bridge, .cadence, .radio, .supply, .control, .link, .sound, .store, .smoke, .light] : List Part) ⊆ c) :
    s.keeps c t.enterConfig ↔ s.keeps c t := by
  have k : t.keeps [.mode, .motion, .bridge, .cadence, .radio, .supply, .control, .link, .sound, .store, .smoke, .light] t.enterConfig := by
    simp only [State.enterConfig]
    simp
  exact keeps_congr k h

/-- `setMode` changes no part but mode, motion, bridge, cadence, radio, supply, control, link, sound, store, smoke, light. -/
@[simp] theorem setMode_keeps {c : List Part} (s t : State) (n : Nat) (h : ([.mode, .motion, .bridge, .cadence, .radio, .supply, .control, .link, .sound, .store, .smoke, .light] : List Part) ⊆ c) :
    s.keeps c (t.setMode n).1 ↔ s.keeps c t := by
  have k : t.keeps [.mode, .motion, .bridge, .cadence, .radio, .supply, .control, .link, .sound, .store, .smoke, .light] (t.setMode n).1 := by
    simp only [State.setMode]
    (repeat' split) <;> simp
  exact keeps_congr k h

/-! ## Link Port -/

/-- `withLink` changes no part but link. -/
@[simp] theorem withLink_keeps {c : List Part} (s t : State) (l : Link) (h : ([.link] : List Part) ⊆ c) :
    s.keeps c (t.withLink l) ↔ s.keeps c t := by
  have k : t.keeps [.link] (t.withLink l) := by
    simp only [State.withLink]
    simp
  exact keeps_congr k h

/-- `answerPing` changes nothing. -/
@[simp] theorem answerPing_keeps {c : List Part} (s t : State) :
    s.keeps c (t.answerPing).1 ↔ s.keeps c t := by
  have k : t.keeps [] (t.answerPing).1 := by
    simp only [State.answerPing, State.answer]
    simp
  exact keeps_congr k (by simp)

/-- `answerSetMode` changes no part but mode, motion, bridge, cadence, radio, supply, control, link, sound, store, smoke, light. -/
@[simp] theorem answerSetMode_keeps {c : List Part} (s t : State) (b : Byte) (h : ([.mode, .motion, .bridge, .cadence, .radio, .supply, .control, .link, .sound, .store, .smoke, .light] : List Part) ⊆ c) :
    s.keeps c (t.answerSetMode b).1 ↔ s.keeps c t := by
  have k : t.keeps [.mode, .motion, .bridge, .cadence, .radio, .supply, .control, .link, .sound, .store, .smoke, .light] (t.answerSetMode b).1 := by
    simp only [State.answerSetMode, State.answer]
    simp
  exact keeps_congr k h

/-- `answerReadTable` changes nothing. -/
@[simp] theorem answerReadTable_keeps {c : List Part} (s t : State) (a b : Byte) :
    s.keeps c (t.answerReadTable a b).1 ↔ s.keeps c t := by
  have k : t.keeps [] (t.answerReadTable a b).1 := by
    simp only [State.answerReadTable, State.answer, State.refuse]
    (repeat' split) <;> simp
  exact keeps_congr k (by simp)

/-- `answerDrive` changes no part but motion, bridge, control, link, smoke. -/
@[simp] theorem answerDrive_keeps {c : List Part} (s t : State) (n : Nat) (b : Byte) (h : ([.motion, .bridge, .control, .link, .smoke] : List Part) ⊆ c) :
    s.keeps c (t.answerDrive n b).1 ↔ s.keeps c t := by
  have k : t.keeps [.motion, .bridge, .control, .link, .smoke] (t.answerDrive n b).1 := by
    simp only [State.answerDrive, State.answer, State.refuse]
    (repeat' split) <;> simp
  exact keeps_congr k h

/-- `answerReleaseDrive` changes no part but motion, bridge, control, link, smoke. -/
@[simp] theorem answerReleaseDrive_keeps {c : List Part} (s t : State) (h : ([.motion, .bridge, .control, .link, .smoke] : List Part) ⊆ c) :
    s.keeps c (t.answerReleaseDrive).1 ↔ s.keeps c t := by
  have k : t.keeps [.motion, .bridge, .control, .link, .smoke] (t.answerReleaseDrive).1 := by
    simp only [State.answerReleaseDrive, State.answer, State.refuse]
    (repeat' split) <;> simp
  exact keeps_congr k h

/-- `answerStop` changes no part but motion, bridge, control, link, smoke. -/
@[simp] theorem answerStop_keeps {c : List Part} (s t : State) (h : ([.motion, .bridge, .control, .link, .smoke] : List Part) ⊆ c) :
    s.keeps c (t.answerStop).1 ↔ s.keeps c t := by
  have k : t.keeps [.motion, .bridge, .control, .link, .smoke] (t.answerStop).1 := by
    simp only [State.answerStop, State.answer, State.refuse]
    (repeat' split) <;> simp
  exact keeps_congr k h

/-- `answerSetFunction` changes no part but smoke, control, sound, store, counters, link. -/
@[simp] theorem answerSetFunction_keeps {c : List Part} (s t : State) (a b : Byte) (h : ([.smoke, .control, .sound, .store, .counters, .link] : List Part) ⊆ c) :
    s.keeps c (t.answerSetFunction a b).1 ↔ s.keeps c t := by
  have k : t.keeps [.smoke, .control, .sound, .store, .counters, .link] (t.answerSetFunction a b).1 := by
    simp only [State.answerSetFunction, State.answer, State.refuse]
    (repeat' split) <;> simp
  exact keeps_congr k h

/-- `answerPlayCue` changes no part but sound, store, counters, link. -/
@[simp] theorem answerPlayCue_keeps {c : List Part} (s t : State) (b : Byte) (h : ([.sound, .store, .counters, .link] : List Part) ⊆ c) :
    s.keeps c (t.answerPlayCue b).1 ↔ s.keeps c t := by
  have k : t.keeps [.sound, .store, .counters, .link] (t.answerPlayCue b).1 := by
    simp only [State.answerPlayCue, State.answer, State.refuse]
    (repeat' split) <;> simp
  exact keeps_congr k h

/-- `answerHaltCue` changes no part but sound, store, counters, link. -/
@[simp] theorem answerHaltCue_keeps {c : List Part} (s t : State) (b : Byte) (h : ([.sound, .store, .counters, .link] : List Part) ⊆ c) :
    s.keeps c (t.answerHaltCue b).1 ↔ s.keeps c t := by
  have k : t.keeps [.sound, .store, .counters, .link] (t.answerHaltCue b).1 := by
    simp only [State.answerHaltCue, State.answer, State.refuse]
    (repeat' split) <;> simp
  exact keeps_congr k h

/-- `answerStoreErase` changes no part but store. -/
@[simp] theorem answerStoreErase_keeps {c : List Part} (s t : State) (n : Nat) (h : ([.store] : List Part) ⊆ c) :
    s.keeps c (t.answerStoreErase n).1 ↔ s.keeps c t := by
  have k : t.keeps [.store] (t.answerStoreErase n).1 := by
    simp only [State.answerStoreErase, State.answerStore, State.storeErase]; split <;> rename_i h <;> revert h <;> (repeat' split) <;> intro h <;> simp_all [State.refuse, State.answer] <;> (try (obtain ⟨rfl, rfl⟩ := h; simp))
  exact keeps_congr k h

/-- `answerStoreWrite` changes no part but store. -/
@[simp] theorem answerStoreWrite_keeps {c : List Part} (s t : State) (n : Nat) (l : List Byte) (h : ([.store] : List Part) ⊆ c) :
    s.keeps c (t.answerStoreWrite n l).1 ↔ s.keeps c t := by
  have k : t.keeps [.store] (t.answerStoreWrite n l).1 := by
    simp only [State.answerStoreWrite, State.answerStore, State.storeWrite]; split <;> rename_i h <;> revert h <;> (repeat' split) <;> intro h <;> simp_all [State.refuse, State.answer] <;> (try (obtain ⟨rfl, rfl⟩ := h; simp))
  exact keeps_congr k h

/-- `answerStoreRead` changes no part but store. -/
@[simp] theorem answerStoreRead_keeps {c : List Part} (s t : State) (n m : Nat) (h : ([.store] : List Part) ⊆ c) :
    s.keeps c (t.answerStoreRead n m).1 ↔ s.keeps c t := by
  have k : t.keeps [.store] (t.answerStoreRead n m).1 := by
    simp only [State.answerStoreRead, State.storeRead]; split <;> rename_i h <;> revert h <;> (repeat' split) <;> intro h <;> simp_all [State.refuse, State.answer] <;> (try (subst h; simp))
  exact keeps_congr k h

/-- `answerReadStatus` changes no part but link. -/
@[simp] theorem answerReadStatus_keeps {c : List Part} (s t : State) (h : ([.link] : List Part) ⊆ c) :
    s.keeps c (t.answerReadStatus).1 ↔ s.keeps c t := by
  have k : t.keeps [.link] (t.answerReadStatus).1 := by
    simp only [State.answerReadStatus, State.answer]
    simp
  exact keeps_congr k h

/-- `answerReadCounters` changes no part but counters. -/
@[simp] theorem answerReadCounters_keeps {c : List Part} (s t : State) (a b : Byte) (h : ([.counters] : List Part) ⊆ c) :
    s.keeps c (t.answerReadCounters a b).1 ↔ s.keeps c t := by
  have k : t.keeps [.counters] (t.answerReadCounters a b).1 := by
    simp only [State.answerReadCounters, State.answer, State.refuse]
    (repeat' split) <;> simp
  exact keeps_congr k h

/-- `answerClearTraction` changes no part but motion, bridge, control, link, smoke. -/
@[simp] theorem answerClearTraction_keeps {c : List Part} (s t : State) (h : ([.motion, .bridge, .control, .link, .smoke] : List Part) ⊆ c) :
    s.keeps c (t.answerClearTraction).1 ↔ s.keeps c t := by
  have k : t.keeps [.motion, .bridge, .control, .link, .smoke] (t.answerClearTraction).1 := by
    simp only [State.answerClearTraction, State.answer, State.refuse]
    (repeat' split) <;> simp
  exact keeps_congr k h

/-- `answerClearSmoke` changes no part but smoke, link. -/
@[simp] theorem answerClearSmoke_keeps {c : List Part} (s t : State) (h : ([.smoke, .link] : List Part) ⊆ c) :
    s.keeps c (t.answerClearSmoke).1 ↔ s.keeps c t := by
  have k : t.keeps [.smoke, .link] (t.answerClearSmoke).1 := by
    simp only [State.answerClearSmoke, State.answer, State.refuse]
    (repeat' split) <;> simp
  exact keeps_congr k h

/-- `answerClearFault` changes no part but motion, bridge, control, link, smoke. -/
@[simp] theorem answerClearFault_keeps {c : List Part} (s t : State) (b : Byte) (h : ([.motion, .bridge, .control, .link, .smoke] : List Part) ⊆ c) :
    s.keeps c (t.answerClearFault b).1 ↔ s.keeps c t := by
  have k : t.keeps [.motion, .bridge, .control, .link, .smoke] (t.answerClearFault b).1 := by
    simp only [State.answerClearFault, State.refuse]
    (repeat' split) <;> simp
  exact keeps_congr k h

/-- `answerRestart` changes nothing. -/
@[simp] theorem answerRestart_keeps {c : List Part} (s t : State) :
    s.keeps c (t.answerRestart).1 ↔ s.keeps c t := by
  have k : t.keeps [] (t.answerRestart).1 := by
    simp only [State.answerRestart, State.answer]
    simp
  exact keeps_congr k (by simp)

/-- A table write that is made changes only the tables and what the table's rule says beside them. -/
theorem writeEntry_frame (t u : State) (table index : Nat) (l : List Byte) (k : Bool)
    (h : t.writeEntry table index l = .ok (u, k)) :
    t.keeps [.tables, .light, .cadence, .smoke, .control, .sound, .store, .counters, .link] u := by
  revert h
  simp only [State.writeEntry, State.writeTraction, State.writeCadence, State.writeRadio, State.writeFuncMap,
    State.writeBeacon, State.writeSample, State.writeCue, State.writeChuff, State.writeAmbient, State.writeSmoke,
    State.writeStrobe, State.writeLamp, State.writeSupply, State.writeMixer]
  (repeat' split) <;> intro h <;> first
    | (injection h with h; injection h with h1 h2; subst h1; simp)
    | (cases h)

/-- WRITE_TABLE changes only the tables and what the table's rule says beside them. -/
theorem answerWriteTable_frame (t : State) (a b : Byte) (l : List Byte) :
    t.keeps [.tables, .light, .cadence, .smoke, .control, .sound, .store, .counters, .link]
      (t.answerWriteTable a b l).1 := by
  simp only [State.answerWriteTable, State.refuse, State.answer]
  split
  · simp
  · split
    · split
      · simp
      · rename_i h
        exact writeEntry_frame t _ _ _ _ _ h
    · simp

/-- `answerWriteTable` changes no part but tables, light, cadence, smoke, control, sound, store, counters, link. -/
@[simp] theorem answerWriteTable_keeps {c : List Part} (s t : State) (a b : Byte) (l : List Byte) (h : ([.tables, .light, .cadence, .smoke, .control, .sound, .store, .counters, .link] : List Part) ⊆ c) :
    s.keeps c (t.answerWriteTable a b l).1 ↔ s.keeps c t := by
  have k : t.keeps [.tables, .light, .cadence, .smoke, .control, .sound, .store, .counters, .link] (t.answerWriteTable a b l).1 := by
    exact answerWriteTable_frame t a b l
  exact keeps_congr k h

/-- `perform` changes no part but mode, motion, bridge, cadence, radio, supply, control, link, sound, store, smoke, light, tables, counters. -/
@[simp] theorem perform_keeps {c : List Part} (s t : State) (r : Request) (h : ([.mode, .motion, .bridge, .cadence, .radio, .supply, .control, .link, .sound, .store, .smoke, .light, .tables, .counters] : List Part) ⊆ c) :
    s.keeps c (t.perform r).1 ↔ s.keeps c t := by
  have k : t.keeps [.mode, .motion, .bridge, .cadence, .radio, .supply, .control, .link, .sound, .store, .smoke, .light, .tables, .counters] (t.perform r).1 := by
    simp only [State.perform, State.refuse]
    (repeat' split) <;> simp
  exact keeps_congr k h

/-- `serve` changes no part but mode, motion, bridge, cadence, radio, supply, control, link, sound, store, smoke, light, tables, counters. -/
@[simp] theorem serve_keeps {c : List Part} (s t : State) (g : Tagged) (h : ([.mode, .motion, .bridge, .cadence, .radio, .supply, .control, .link, .sound, .store, .smoke, .light, .tables, .counters] : List Part) ⊆ c) :
    s.keeps c (t.serve g) ↔ s.keeps c t := by
  have k : t.keeps [.mode, .motion, .bridge, .cadence, .radio, .supply, .control, .link, .sound, .store, .smoke, .light, .tables, .counters] (t.serve g) := by
    simp only [State.serve]
    (repeat' split) <;> simp
  exact keeps_congr k h

/-- `place` changes no part but link. -/
@[simp] theorem place_keeps {c : List Part} (s t : State) (h : ([.link] : List Part) ⊆ c) :
    s.keeps c t.place ↔ s.keeps c t := by
  have k : t.keeps [.link] t.place := by
    simp only [State.place]
    simp
  exact keeps_congr k h

/-- `promote` changes no part but mode, motion, bridge, cadence, radio, supply, control, link, sound, store, smoke, light, tables, counters. -/
@[simp] theorem promote_keeps {c : List Part} (s t : State) (h : ([.mode, .motion, .bridge, .cadence, .radio, .supply, .control, .link, .sound, .store, .smoke, .light, .tables, .counters] : List Part) ⊆ c) :
    s.keeps c t.promote ↔ s.keeps c t := by
  have k : t.keeps [.mode, .motion, .bridge, .cadence, .radio, .supply, .control, .link, .sound, .store, .smoke, .light, .tables, .counters] t.promote := by
    simp only [State.promote]
    (repeat' split) <;> simp
  exact keeps_congr k h

/-- `settle` changes no part but mode, motion, bridge, cadence, radio, supply, control, link, sound, store, smoke, light, tables, counters. -/
@[simp] theorem settle_keeps {c : List Part} (s t : State) (h : ([.mode, .motion, .bridge, .cadence, .radio, .supply, .control, .link, .sound, .store, .smoke, .light, .tables, .counters] : List Part) ⊆ c) :
    s.keeps c t.settle ↔ s.keeps c t := by
  have k : t.keeps [.mode, .motion, .bridge, .cadence, .radio, .supply, .control, .link, .sound, .store, .smoke, .light, .tables, .counters] t.settle := by
    simp only [State.settle]
    simp
  exact keeps_congr k h

/-- `renewHostLease` changes no part but link. -/
@[simp] theorem renewHostLease_keeps {c : List Part} (s t : State) (h : ([.link] : List Part) ⊆ c) :
    s.keeps c t.renewHostLease ↔ s.keeps c t := by
  have k : t.keeps [.link] t.renewHostLease := by
    simp only [State.renewHostLease]
    simp
  exact keeps_congr k h

/-- `takeRequest` changes no part but mode, motion, bridge, cadence, radio, supply, control, link, sound, store, smoke, light, tables, counters. -/
@[simp] theorem takeRequest_keeps {c : List Part} (s t : State) (g : Tagged) (h : ([.mode, .motion, .bridge, .cadence, .radio, .supply, .control, .link, .sound, .store, .smoke, .light, .tables, .counters] : List Part) ⊆ c) :
    s.keeps c (t.takeRequest g) ↔ s.keeps c t := by
  have k : t.keeps [.mode, .motion, .bridge, .cadence, .radio, .supply, .control, .link, .sound, .store, .smoke, .light, .tables, .counters] (t.takeRequest g) := by
    simp only [State.takeRequest]
    (repeat' split) <;> simp
  exact keeps_congr k h

/-- `framing` changes no part but link, counters. -/
@[simp] theorem framing_keeps {c : List Part} (s t : State) (h : ([.link, .counters] : List Part) ⊆ c) :
    s.keeps c t.framing ↔ s.keeps c t := by
  have k : t.keeps [.link, .counters] t.framing := by
    simp only [State.framing]
    simp
  exact keeps_congr k h

/-- `checkFrame` changes no part but mode, motion, bridge, cadence, radio, supply, control, link, sound, store, smoke, light, tables, counters. -/
@[simp] theorem checkFrame_keeps {c : List Part} (s t : State) (l : List Byte) (h : ([.mode, .motion, .bridge, .cadence, .radio, .supply, .control, .link, .sound, .store, .smoke, .light, .tables, .counters] : List Part) ⊆ c) :
    s.keeps c (t.checkFrame l) ↔ s.keeps c t := by
  have k : t.keeps [.mode, .motion, .bridge, .cadence, .radio, .supply, .control, .link, .sound, .store, .smoke, .light, .tables, .counters] (t.checkFrame l) := by
    simp only [State.checkFrame]
    (repeat' split) <;> simp
  exact keeps_congr k h

/-- `collect` changes no part but link. -/
@[simp] theorem collect_keeps {c : List Part} (s t : State) (l : List Byte) (h : ([.link] : List Part) ⊆ c) :
    s.keeps c (t.collect l) ↔ s.keeps c t := by
  have k : t.keeps [.link] (t.collect l) := by
    simp only [State.collect]
    simp
  exact keeps_congr k h

/-- `linkByte` changes no part but mode, motion, bridge, cadence, radio, supply, control, link, sound, store, smoke, light, tables, counters. -/
@[simp] theorem linkByte_keeps {c : List Part} (s t : State) (x : Byte) (b : Bool) (h : ([.mode, .motion, .bridge, .cadence, .radio, .supply, .control, .link, .sound, .store, .smoke, .light, .tables, .counters] : List Part) ⊆ c) :
    s.keeps c (t.linkByte x b) ↔ s.keeps c t := by
  have k : t.keeps [.mode, .motion, .bridge, .cadence, .radio, .supply, .control, .link, .sound, .store, .smoke, .light, .tables, .counters] (t.linkByte x b) := by
    simp only [State.linkByte]
    (repeat' split) <;> simp
  exact keeps_congr k h

/-- `linkGap` changes no part but link, counters. -/
@[simp] theorem linkGap_keeps {c : List Part} (s t : State) (h : ([.link, .counters] : List Part) ⊆ c) :
    s.keeps c t.linkGap ↔ s.keeps c t := by
  have k : t.keeps [.link, .counters] t.linkGap := by
    simp only [State.linkGap]
    (repeat' split) <;> simp
  exact keeps_congr k h

/-- `readComplete` changes no part but store, link. -/
@[simp] theorem readComplete_keeps {c : List Part} (s t : State) (h : ([.store, .link] : List Part) ⊆ c) :
    s.keeps c t.readComplete ↔ s.keeps c t := by
  have k : t.keeps [.store, .link] t.readComplete := by
    simp only [State.readComplete]
    (repeat' split) <;> simp
  exact keeps_congr k h

/-- `hostLeaseExpiry` changes no part but motion, bridge, control, link, smoke. -/
@[simp] theorem hostLeaseExpiry_keeps {c : List Part} (s t : State) (h : ([.motion, .bridge, .control, .link, .smoke] : List Part) ⊆ c) :
    s.keeps c t.hostLeaseExpiry ↔ s.keeps c t := by
  have k : t.keeps [.motion, .bridge, .control, .link, .smoke] t.hostLeaseExpiry := by
    simp only [State.hostLeaseExpiry]
    (repeat' split) <;> simp
  exact keeps_congr k h

/-- `finish` changes no part but store, link. -/
@[simp] theorem finish_keeps {c : List Part} (s t : State) (h : ([.store, .link] : List Part) ⊆ c) :
    s.keeps c t.finish ↔ s.keeps c t := by
  have k : t.keeps [.store, .link] t.finish := by
    simp only [State.finish]
    simp
  exact keeps_congr k h

/-- `finishLink` changes no part but mode, motion, bridge, cadence, radio, supply, control, link, sound, store, smoke, light, tables, counters. -/
@[simp] theorem finishLink_keeps {c : List Part} (s t : State) (h : ([.mode, .motion, .bridge, .cadence, .radio, .supply, .control, .link, .sound, .store, .smoke, .light, .tables, .counters] : List Part) ⊆ c) :
    s.keeps c t.finishLink ↔ s.keeps c t := by
  have k : t.keeps [.mode, .motion, .bridge, .cadence, .radio, .supply, .control, .link, .sound, .store, .smoke, .light, .tables, .counters] t.finishLink := by
    simp only [State.finishLink]
    simp
  exact keeps_congr k h

/-- `measurementComplete` changes no part but supply, motion, bridge, cadence, smoke, control, sound, store, counters, link. -/
@[simp] theorem measurementComplete_keeps {c : List Part} (s t : State) (v : Int) (h : ([.supply, .motion, .bridge, .cadence, .smoke, .control, .sound, .store, .counters, .link] : List Part) ⊆ c) :
    s.keeps c (t.measurementComplete v) ↔ s.keeps c t := by
  have k : t.keeps [.supply, .motion, .bridge, .cadence, .smoke, .control, .sound, .store, .counters, .link] (t.measurementComplete v) := by
    simp only [State.measurementComplete]
    (repeat' split) <;> simp
  exact keeps_congr k h

end Sys2Proof.Machine
end

