-- ==== Sys2Proof/Laws/Memory.lean ====
section
/-! SUPPORT. The sample flash: what a read gives after each operation, and that every operation keeps the canonical
form. -/

namespace Sys2Proof.Machine

/-! ## The canonical form -/

theorem Memory.wf_cons (c : Host.Cell) (cs : List Host.Cell) :
    Memory.wf (c :: cs) = true ↔ c.2 ≠ Memory.blank ∧ (∀ d ∈ cs, c.1 < d.1) ∧ Memory.wf cs = true := by
  induction cs generalizing c with
  | nil => simp [Memory.wf]
  | cons d ds ih =>
    simp only [Memory.wf, Bool.and_eq_true, bne_iff_ne, decide_eq_true_eq, List.mem_cons, forall_eq_or_imp]
    constructor
    · rintro ⟨⟨h1, h2⟩, h3⟩
      refine ⟨h1, ⟨h2, fun e he => ?_⟩, h3⟩
      exact Nat.lt_trans h2 (((ih d).mp h3).2.1 e he)
    · rintro ⟨h1, ⟨h2, -⟩, h3⟩
      exact ⟨⟨h1, h2⟩, h3⟩

@[simp] theorem Memory.wf_nil : Memory.wf [] = true := rfl

@[simp] theorem Memory.read_nil (a : Nat) : Memory.read [] a = Memory.blank := rfl

/-- Below every listed address the flash reads blank. -/
theorem Memory.read_below {m : List Host.Cell} {a : Nat} (h : ∀ d ∈ m, a < d.1) : Memory.read m a = Memory.blank := by
  cases m with
  | nil => rfl
  | cons c cs =>
    have hc := h c (List.mem_cons_self ..)
    have : c.1 ≠ a := by omega
    simp [Memory.read, this, hc]

/-! ## Write -/

theorem Memory.mem_write {m : List Host.Cell} {a : Nat} {b : Byte} {d : Host.Cell} (h : d ∈ Memory.write m a b) :
    d ∈ m ∨ (d = (a, b) ∧ b ≠ Memory.blank) := by
  induction m with
  | nil =>
    by_cases hb : b = Memory.blank <;> simp_all [Memory.write]
  | cons c cs ih =>
    unfold Memory.write at h
    grind

theorem Memory.write_wf {m : List Host.Cell} (a : Nat) (b : Byte) (h : Memory.wf m = true) :
    Memory.wf (Memory.write m a b) = true := by
  induction m with
  | nil => by_cases hb : b = Memory.blank <;> simp [Memory.write, Memory.wf, hb]
  | cons c cs ih =>
    have hc := (Memory.wf_cons c cs).mp h
    unfold Memory.write
    split
    · rename_i e
      split
      · exact hc.2.2
      · rename_i hb
        exact (Memory.wf_cons _ _).mpr ⟨hb, by simpa [← e] using hc.2.1, hc.2.2⟩
    · split
      · rename_i hlt
        split
        · exact h
        · rename_i hb
          refine (Memory.wf_cons _ _).mpr ⟨hb, ?_, h⟩
          intro d hd
          rcases List.mem_cons.mp hd with rfl | hd
          · exact hlt
          · exact Nat.lt_trans hlt (hc.2.1 d hd)
      · rename_i hne hge
        refine (Memory.wf_cons _ _).mpr ⟨hc.1, ?_, ih hc.2.2⟩
        intro d hd
        rcases Memory.mem_write hd with hd | ⟨rfl, -⟩
        · exact hc.2.1 d hd
        · simp only; omega

/-- A read after a write to the same place gives the value written. -/
theorem Memory.read_write_same {m : List Host.Cell} (a : Nat) (b : Byte) (h : Memory.wf m = true) :
    Memory.read (Memory.write m a b) a = b := by
  induction m with
  | nil => by_cases hb : b = Memory.blank <;> simp [Memory.write, Memory.read, hb]
  | cons c cs ih =>
    have hc := (Memory.wf_cons c cs).mp h
    unfold Memory.write
    split
    · rename_i e
      split
      · rename_i hb
        rw [hb]; exact Memory.read_below (by rw [← e]; exact hc.2.1)
      · simp [Memory.read]
    · split
      · rename_i hne hlt
        split
        · rename_i hb; simp [Memory.read, hne, hlt, hb]
        · simp [Memory.read]
      · rename_i hne hge
        simp [Memory.read, hne, hge, ih hc.2.2]

/-- A write leaves every other place alone. -/
theorem Memory.read_write_other {m : List Host.Cell} {a x : Nat} (b : Byte) (h : Memory.wf m = true) (hx : x ≠ a) :
    Memory.read (Memory.write m a b) x = Memory.read m x := by
  induction m with
  | nil =>
    have : a ≠ x := fun e => hx e.symm
    by_cases hb : b = Memory.blank <;> simp [Memory.write, Memory.read, hb, this]
  | cons c cs ih =>
    have hc := (Memory.wf_cons c cs).mp h
    have ha : a ≠ x := fun e => hx e.symm
    unfold Memory.write
    split
    · rename_i e
      have : c.1 ≠ x := by omega
      by_cases hlt : x < c.1
      · have hb' : Memory.read cs x = Memory.blank :=
          Memory.read_below (fun d hd => Nat.lt_trans hlt (hc.2.1 d hd))
        have hxa : x < a := by omega
        split <;> simp [Memory.read, this, hlt, hb', ha, hxa]
      · have hxa : ¬ x < a := by omega
        split <;> simp [Memory.read, this, hlt, ha, hxa]
    · split
      · rename_i hne hlt
        split
        · rfl
        · by_cases hxa : x < a
          · have h1 : x < c.1 := by omega
            have h2 : c.1 ≠ x := by omega
            simp [Memory.read, ha, hxa, h1, h2]
          · simp [Memory.read, ha, hxa]
      · by_cases hcx : c.1 = x
        · simp [Memory.read, hcx]
        · by_cases hlt : x < c.1 <;> simp [Memory.read, hcx, hlt, ih hc.2.2]

/-! ## Erase -/

theorem Memory.filter_wf {m : List Host.Cell} (p : Host.Cell → Bool) (h : Memory.wf m = true) :
    Memory.wf (m.filter p) = true := by
  induction m with
  | nil => rfl
  | cons c cs ih =>
    have hc := (Memory.wf_cons c cs).mp h
    simp only [List.filter_cons]
    split
    · refine (Memory.wf_cons _ _).mpr ⟨hc.1, fun d hd => hc.2.1 d (List.mem_filter.mp hd).1, ih hc.2.2⟩
    · exact ih hc.2.2

theorem Memory.erase_wf {m : List Host.Cell} (a count : Nat) (h : Memory.wf m = true) :
    Memory.wf (Memory.erase m a count) = true := Memory.filter_wf _ h

/-- An erase leaves every place outside its range alone (R129). -/
theorem Memory.read_erase_outside {m : List Host.Cell} {a count x : Nat} (h : Memory.wf m = true)
    (hx : x < a ∨ a + count ≤ x) : Memory.read (Memory.erase m a count) x = Memory.read m x := by
  induction m with
  | nil => rfl
  | cons c cs ih =>
    have hc := (Memory.wf_cons c cs).mp h
    have ih := ih hc.2.2
    simp only [Memory.erase] at ih ⊢
    simp only [List.filter_cons]
    split
    · by_cases h1 : c.1 = x
      · simp [Memory.read, h1]
      · by_cases h2 : x < c.1 <;> simp [Memory.read, h1, h2, ih]
    · rename_i hp
      simp only [Bool.or_eq_true, decide_eq_true_eq] at hp
      have h1 : c.1 ≠ x := by omega
      by_cases h2 : x < c.1
      · rw [ih]
        have : Memory.read cs x = Memory.blank := Memory.read_below (fun d hd => Nat.lt_trans h2 (hc.2.1 d hd))
        simp [Memory.read, h1, h2, this]
      · simp [Memory.read, h1, h2, ih]

/-- An erased byte reads blank (R129). -/
theorem Memory.read_erase_inside {m : List Host.Cell} {a count x : Nat} (h : a ≤ x) (hx : x < a + count) :
    Memory.read (Memory.erase m a count) x = Memory.blank := by
  induction m with
  | nil => rfl
  | cons c cs ih =>
    simp only [Memory.erase] at ih ⊢
    simp only [List.filter_cons]
    split
    · rename_i hp
      simp only [Bool.or_eq_true, decide_eq_true_eq] at hp
      have h1 : c.1 ≠ x := by omega
      by_cases h2 : x < c.1 <;> simp [Memory.read, h1, h2, ih]
    · exact ih

/-! ## Program -/

theorem Memory.program_wf {m : List Host.Cell} (a : Nat) (data : List Byte) (h : Memory.wf m = true) :
    Memory.wf (Memory.program m a data) = true := by
  induction data generalizing m a with
  | nil => exact h
  | cons b bs ih => exact ih _ (Memory.write_wf _ _ h)

/-- A write leaves every place outside its bytes alone (R129). -/
theorem Memory.read_program_outside {m : List Host.Cell} {a x : Nat} (data : List Byte) (h : Memory.wf m = true)
    (hx : x < a ∨ a + data.length ≤ x) : Memory.read (Memory.program m a data) x = Memory.read m x := by
  induction data generalizing m a with
  | nil => rfl
  | cons b bs ih =>
    simp only [List.length_cons] at hx
    simp only [Memory.program]
    rw [ih (Memory.write_wf _ _ h) (by omega), Memory.read_write_other _ h (by omega)]

/-- A written byte holds the AND of old and new (R129). -/
theorem Memory.read_program_inside {m : List Host.Cell} {a k : Nat} (data : List Byte) (h : Memory.wf m = true)
    (hk : k < data.length) :
    Memory.read (Memory.program m a data) (a + k) = Memory.read m (a + k) &&& data[k] := by
  induction data generalizing m a k with
  | nil => simp at hk
  | cons b bs ih =>
    simp only [Memory.program]
    cases k with
    | zero =>
      rw [Memory.read_program_outside bs (Memory.write_wf _ _ h) (by omega), Nat.add_zero,
        Memory.read_write_same _ _ h]
      rfl
    | succ k =>
      have e : a + (k + 1) = a + 1 + k := by omega
      simp only [List.length_cons] at hk
      rw [e, ih (Memory.write_wf _ _ h) (by omega), Memory.read_write_other _ h (by omega)]
      rfl

/-! ## A cut-off erase or write -/

theorem Memory.disturb_wf {m : List Host.Cell} (isWrite : Bool) (k a count : Nat) (h : Memory.wf m = true) :
    Memory.wf (Memory.disturb m isWrite k a count) = true := by
  induction count generalizing m k a with
  | zero => exact h
  | succ n ih => exact ih _ _ (Memory.write_wf _ _ h)

/-- A cut-off operation leaves every place outside its range alone (R131). -/
theorem Memory.read_disturb_outside {m : List Host.Cell} {isWrite : Bool} {k a count x : Nat}
    (h : Memory.wf m = true) (hx : x < a ∨ a + count ≤ x) :
    Memory.read (Memory.disturb m isWrite k a count) x = Memory.read m x := by
  induction count generalizing m k a with
  | zero => rfl
  | succ n ih =>
    simp only [Memory.disturb]
    rw [ih (Memory.write_wf _ _ h) (by omega), Memory.read_write_other _ h (by omega)]

@[simp] theorem Memory.readRange_length (m : List Host.Cell) (a count : Nat) :
    (Memory.readRange m a count).length = count := by simp [Memory.readRange]

/-- Byte `k` of a run that is read. -/
theorem Memory.readRange_get {m : List Host.Cell} {a count k : Nat} (h : k < count) :
    (Memory.readRange m a count)[k]? = some (Memory.read m (a + k)) := by
  simp [Memory.readRange, h]

/-! ## The state's flash -/

theorem State.disturbFlash_wf (s : State) (op : StoreOp) (h : Memory.wf s.flash = true) :
    Memory.wf (s.disturbFlash op).flash = true := by
  unfold State.disturbFlash
  split
  · exact h
  · exact h
  · exact Memory.disturb_wf _ _ _ _ h
  · exact Memory.disturb_wf _ _ _ _ h

theorem State.reset_flash_wf : Memory.wf State.reset.flash = true := rfl

end Sys2Proof.Machine
end

