-- ==== Sys2Proof/Laws/State.lean ====
section
/-! SUPPORT. What each elementary update of the state does to each field: one lemma for each field and update, true by
unfolding, so that no later proof unfolds an update. -/

namespace Sys2Proof.Machine

/-! ## elapse -/

@[simp] theorem elapse_now (s : State) (n : Nat) : (s.elapse n).now = s.now + n := rfl
@[simp] theorem elapse_mode (s : State) (n : Nat) : (s.elapse n).mode = s.mode := rfl
@[simp] theorem elapse_cause (s : State) (n : Nat) : (s.elapse n).cause = s.cause := rfl
@[simp] theorem elapse_tables (s : State) (n : Nat) : (s.elapse n).tables = s.tables := rfl
@[simp] theorem elapse_counters (s : State) (n : Nat) : (s.elapse n).counters = s.counters := rfl
@[simp] theorem elapse_link (s : State) (n : Nat) : (s.elapse n).link = s.link := rfl
@[simp] theorem elapse_radio (s : State) (n : Nat) : (s.elapse n).radio = s.radio := rfl
@[simp] theorem elapse_control (s : State) (n : Nat) : (s.elapse n).control = s.control := rfl
@[simp] theorem elapse_motion (s : State) (n : Nat) : (s.elapse n).motion = s.motion := rfl
@[simp] theorem elapse_bridge (s : State) (n : Nat) : (s.elapse n).bridge = s.bridge := rfl
@[simp] theorem elapse_cadence (s : State) (n : Nat) : (s.elapse n).cadence = s.cadence := rfl
@[simp] theorem elapse_sound (s : State) (n : Nat) : (s.elapse n).sound = s.sound := rfl
@[simp] theorem elapse_store (s : State) (n : Nat) : (s.elapse n).store = s.store := rfl
@[simp] theorem elapse_flash (s : State) (n : Nat) : (s.elapse n).flash = s.flash := rfl
@[simp] theorem elapse_audio (s : State) (n : Nat) : (s.elapse n).audio = s.audio := rfl
@[simp] theorem elapse_smoke (s : State) (n : Nat) : (s.elapse n).smoke = s.smoke := rfl
@[simp] theorem elapse_light (s : State) (n : Nat) : (s.elapse n).light = s.light := rfl
@[simp] theorem elapse_supply (s : State) (n : Nat) : (s.elapse n).supply = s.supply := rfl
@[simp] theorem elapse_freeCount (s : State) (n : Nat) : (s.elapse n).freeCount = s.freeCount := rfl
@[simp] theorem elapse_pending (s : State) (n : Nat) : (s.elapse n).pending = s.pending := rfl

/-! ## countLink -/

@[simp] theorem countLink_now (s : State) (f : LinkCounters → LinkCounters) : (s.countLink f).now = s.now := rfl
@[simp] theorem countLink_mode (s : State) (f : LinkCounters → LinkCounters) : (s.countLink f).mode = s.mode := rfl
@[simp] theorem countLink_cause (s : State) (f : LinkCounters → LinkCounters) : (s.countLink f).cause = s.cause := rfl
@[simp] theorem countLink_tables (s : State) (f : LinkCounters → LinkCounters) : (s.countLink f).tables = s.tables := rfl
@[simp] theorem countLink_counters (s : State) (f : LinkCounters → LinkCounters) : (s.countLink f).counters = { s.counters with link := f s.counters.link } := rfl
@[simp] theorem countLink_link (s : State) (f : LinkCounters → LinkCounters) : (s.countLink f).link = s.link := rfl
@[simp] theorem countLink_radio (s : State) (f : LinkCounters → LinkCounters) : (s.countLink f).radio = s.radio := rfl
@[simp] theorem countLink_control (s : State) (f : LinkCounters → LinkCounters) : (s.countLink f).control = s.control := rfl
@[simp] theorem countLink_motion (s : State) (f : LinkCounters → LinkCounters) : (s.countLink f).motion = s.motion := rfl
@[simp] theorem countLink_bridge (s : State) (f : LinkCounters → LinkCounters) : (s.countLink f).bridge = s.bridge := rfl
@[simp] theorem countLink_cadence (s : State) (f : LinkCounters → LinkCounters) : (s.countLink f).cadence = s.cadence := rfl
@[simp] theorem countLink_sound (s : State) (f : LinkCounters → LinkCounters) : (s.countLink f).sound = s.sound := rfl
@[simp] theorem countLink_store (s : State) (f : LinkCounters → LinkCounters) : (s.countLink f).store = s.store := rfl
@[simp] theorem countLink_flash (s : State) (f : LinkCounters → LinkCounters) : (s.countLink f).flash = s.flash := rfl
@[simp] theorem countLink_audio (s : State) (f : LinkCounters → LinkCounters) : (s.countLink f).audio = s.audio := rfl
@[simp] theorem countLink_smoke (s : State) (f : LinkCounters → LinkCounters) : (s.countLink f).smoke = s.smoke := rfl
@[simp] theorem countLink_light (s : State) (f : LinkCounters → LinkCounters) : (s.countLink f).light = s.light := rfl
@[simp] theorem countLink_supply (s : State) (f : LinkCounters → LinkCounters) : (s.countLink f).supply = s.supply := rfl
@[simp] theorem countLink_freeCount (s : State) (f : LinkCounters → LinkCounters) : (s.countLink f).freeCount = s.freeCount := rfl
@[simp] theorem countLink_pending (s : State) (f : LinkCounters → LinkCounters) : (s.countLink f).pending = s.pending := rfl

/-! ## countRadio -/

@[simp] theorem countRadio_now (s : State) (f : RadioCounters → RadioCounters) : (s.countRadio f).now = s.now := rfl
@[simp] theorem countRadio_mode (s : State) (f : RadioCounters → RadioCounters) : (s.countRadio f).mode = s.mode := rfl
@[simp] theorem countRadio_cause (s : State) (f : RadioCounters → RadioCounters) : (s.countRadio f).cause = s.cause := rfl
@[simp] theorem countRadio_tables (s : State) (f : RadioCounters → RadioCounters) : (s.countRadio f).tables = s.tables := rfl
@[simp] theorem countRadio_counters (s : State) (f : RadioCounters → RadioCounters) : (s.countRadio f).counters = { s.counters with radio := f s.counters.radio } := rfl
@[simp] theorem countRadio_link (s : State) (f : RadioCounters → RadioCounters) : (s.countRadio f).link = s.link := rfl
@[simp] theorem countRadio_radio (s : State) (f : RadioCounters → RadioCounters) : (s.countRadio f).radio = s.radio := rfl
@[simp] theorem countRadio_control (s : State) (f : RadioCounters → RadioCounters) : (s.countRadio f).control = s.control := rfl
@[simp] theorem countRadio_motion (s : State) (f : RadioCounters → RadioCounters) : (s.countRadio f).motion = s.motion := rfl
@[simp] theorem countRadio_bridge (s : State) (f : RadioCounters → RadioCounters) : (s.countRadio f).bridge = s.bridge := rfl
@[simp] theorem countRadio_cadence (s : State) (f : RadioCounters → RadioCounters) : (s.countRadio f).cadence = s.cadence := rfl
@[simp] theorem countRadio_sound (s : State) (f : RadioCounters → RadioCounters) : (s.countRadio f).sound = s.sound := rfl
@[simp] theorem countRadio_store (s : State) (f : RadioCounters → RadioCounters) : (s.countRadio f).store = s.store := rfl
@[simp] theorem countRadio_flash (s : State) (f : RadioCounters → RadioCounters) : (s.countRadio f).flash = s.flash := rfl
@[simp] theorem countRadio_audio (s : State) (f : RadioCounters → RadioCounters) : (s.countRadio f).audio = s.audio := rfl
@[simp] theorem countRadio_smoke (s : State) (f : RadioCounters → RadioCounters) : (s.countRadio f).smoke = s.smoke := rfl
@[simp] theorem countRadio_light (s : State) (f : RadioCounters → RadioCounters) : (s.countRadio f).light = s.light := rfl
@[simp] theorem countRadio_supply (s : State) (f : RadioCounters → RadioCounters) : (s.countRadio f).supply = s.supply := rfl
@[simp] theorem countRadio_freeCount (s : State) (f : RadioCounters → RadioCounters) : (s.countRadio f).freeCount = s.freeCount := rfl
@[simp] theorem countRadio_pending (s : State) (f : RadioCounters → RadioCounters) : (s.countRadio f).pending = s.pending := rfl

/-! ## countTraction -/

@[simp] theorem countTraction_now (s : State) (f : TractionCounters → TractionCounters) : (s.countTraction f).now = s.now := rfl
@[simp] theorem countTraction_mode (s : State) (f : TractionCounters → TractionCounters) : (s.countTraction f).mode = s.mode := rfl
@[simp] theorem countTraction_cause (s : State) (f : TractionCounters → TractionCounters) : (s.countTraction f).cause = s.cause := rfl
@[simp] theorem countTraction_tables (s : State) (f : TractionCounters → TractionCounters) : (s.countTraction f).tables = s.tables := rfl
@[simp] theorem countTraction_counters (s : State) (f : TractionCounters → TractionCounters) : (s.countTraction f).counters = { s.counters with traction := f s.counters.traction } := rfl
@[simp] theorem countTraction_link (s : State) (f : TractionCounters → TractionCounters) : (s.countTraction f).link = s.link := rfl
@[simp] theorem countTraction_radio (s : State) (f : TractionCounters → TractionCounters) : (s.countTraction f).radio = s.radio := rfl
@[simp] theorem countTraction_control (s : State) (f : TractionCounters → TractionCounters) : (s.countTraction f).control = s.control := rfl
@[simp] theorem countTraction_motion (s : State) (f : TractionCounters → TractionCounters) : (s.countTraction f).motion = s.motion := rfl
@[simp] theorem countTraction_bridge (s : State) (f : TractionCounters → TractionCounters) : (s.countTraction f).bridge = s.bridge := rfl
@[simp] theorem countTraction_cadence (s : State) (f : TractionCounters → TractionCounters) : (s.countTraction f).cadence = s.cadence := rfl
@[simp] theorem countTraction_sound (s : State) (f : TractionCounters → TractionCounters) : (s.countTraction f).sound = s.sound := rfl
@[simp] theorem countTraction_store (s : State) (f : TractionCounters → TractionCounters) : (s.countTraction f).store = s.store := rfl
@[simp] theorem countTraction_flash (s : State) (f : TractionCounters → TractionCounters) : (s.countTraction f).flash = s.flash := rfl
@[simp] theorem countTraction_audio (s : State) (f : TractionCounters → TractionCounters) : (s.countTraction f).audio = s.audio := rfl
@[simp] theorem countTraction_smoke (s : State) (f : TractionCounters → TractionCounters) : (s.countTraction f).smoke = s.smoke := rfl
@[simp] theorem countTraction_light (s : State) (f : TractionCounters → TractionCounters) : (s.countTraction f).light = s.light := rfl
@[simp] theorem countTraction_supply (s : State) (f : TractionCounters → TractionCounters) : (s.countTraction f).supply = s.supply := rfl
@[simp] theorem countTraction_freeCount (s : State) (f : TractionCounters → TractionCounters) : (s.countTraction f).freeCount = s.freeCount := rfl
@[simp] theorem countTraction_pending (s : State) (f : TractionCounters → TractionCounters) : (s.countTraction f).pending = s.pending := rfl

/-! ## countSound -/

@[simp] theorem countSound_now (s : State) (f : SoundCounters → SoundCounters) : (s.countSound f).now = s.now := rfl
@[simp] theorem countSound_mode (s : State) (f : SoundCounters → SoundCounters) : (s.countSound f).mode = s.mode := rfl
@[simp] theorem countSound_cause (s : State) (f : SoundCounters → SoundCounters) : (s.countSound f).cause = s.cause := rfl
@[simp] theorem countSound_tables (s : State) (f : SoundCounters → SoundCounters) : (s.countSound f).tables = s.tables := rfl
@[simp] theorem countSound_counters (s : State) (f : SoundCounters → SoundCounters) : (s.countSound f).counters = { s.counters with sound := f s.counters.sound } := rfl
@[simp] theorem countSound_link (s : State) (f : SoundCounters → SoundCounters) : (s.countSound f).link = s.link := rfl
@[simp] theorem countSound_radio (s : State) (f : SoundCounters → SoundCounters) : (s.countSound f).radio = s.radio := rfl
@[simp] theorem countSound_control (s : State) (f : SoundCounters → SoundCounters) : (s.countSound f).control = s.control := rfl
@[simp] theorem countSound_motion (s : State) (f : SoundCounters → SoundCounters) : (s.countSound f).motion = s.motion := rfl
@[simp] theorem countSound_bridge (s : State) (f : SoundCounters → SoundCounters) : (s.countSound f).bridge = s.bridge := rfl
@[simp] theorem countSound_cadence (s : State) (f : SoundCounters → SoundCounters) : (s.countSound f).cadence = s.cadence := rfl
@[simp] theorem countSound_sound (s : State) (f : SoundCounters → SoundCounters) : (s.countSound f).sound = s.sound := rfl
@[simp] theorem countSound_store (s : State) (f : SoundCounters → SoundCounters) : (s.countSound f).store = s.store := rfl
@[simp] theorem countSound_flash (s : State) (f : SoundCounters → SoundCounters) : (s.countSound f).flash = s.flash := rfl
@[simp] theorem countSound_audio (s : State) (f : SoundCounters → SoundCounters) : (s.countSound f).audio = s.audio := rfl
@[simp] theorem countSound_smoke (s : State) (f : SoundCounters → SoundCounters) : (s.countSound f).smoke = s.smoke := rfl
@[simp] theorem countSound_light (s : State) (f : SoundCounters → SoundCounters) : (s.countSound f).light = s.light := rfl
@[simp] theorem countSound_supply (s : State) (f : SoundCounters → SoundCounters) : (s.countSound f).supply = s.supply := rfl
@[simp] theorem countSound_freeCount (s : State) (f : SoundCounters → SoundCounters) : (s.countSound f).freeCount = s.freeCount := rfl
@[simp] theorem countSound_pending (s : State) (f : SoundCounters → SoundCounters) : (s.countSound f).pending = s.pending := rfl

/-! ## countSupply -/

@[simp] theorem countSupply_now (s : State) (f : SupplyCounters → SupplyCounters) : (s.countSupply f).now = s.now := rfl
@[simp] theorem countSupply_mode (s : State) (f : SupplyCounters → SupplyCounters) : (s.countSupply f).mode = s.mode := rfl
@[simp] theorem countSupply_cause (s : State) (f : SupplyCounters → SupplyCounters) : (s.countSupply f).cause = s.cause := rfl
@[simp] theorem countSupply_tables (s : State) (f : SupplyCounters → SupplyCounters) : (s.countSupply f).tables = s.tables := rfl
@[simp] theorem countSupply_counters (s : State) (f : SupplyCounters → SupplyCounters) : (s.countSupply f).counters = { s.counters with supply := f s.counters.supply } := rfl
@[simp] theorem countSupply_link (s : State) (f : SupplyCounters → SupplyCounters) : (s.countSupply f).link = s.link := rfl
@[simp] theorem countSupply_radio (s : State) (f : SupplyCounters → SupplyCounters) : (s.countSupply f).radio = s.radio := rfl
@[simp] theorem countSupply_control (s : State) (f : SupplyCounters → SupplyCounters) : (s.countSupply f).control = s.control := rfl
@[simp] theorem countSupply_motion (s : State) (f : SupplyCounters → SupplyCounters) : (s.countSupply f).motion = s.motion := rfl
@[simp] theorem countSupply_bridge (s : State) (f : SupplyCounters → SupplyCounters) : (s.countSupply f).bridge = s.bridge := rfl
@[simp] theorem countSupply_cadence (s : State) (f : SupplyCounters → SupplyCounters) : (s.countSupply f).cadence = s.cadence := rfl
@[simp] theorem countSupply_sound (s : State) (f : SupplyCounters → SupplyCounters) : (s.countSupply f).sound = s.sound := rfl
@[simp] theorem countSupply_store (s : State) (f : SupplyCounters → SupplyCounters) : (s.countSupply f).store = s.store := rfl
@[simp] theorem countSupply_flash (s : State) (f : SupplyCounters → SupplyCounters) : (s.countSupply f).flash = s.flash := rfl
@[simp] theorem countSupply_audio (s : State) (f : SupplyCounters → SupplyCounters) : (s.countSupply f).audio = s.audio := rfl
@[simp] theorem countSupply_smoke (s : State) (f : SupplyCounters → SupplyCounters) : (s.countSupply f).smoke = s.smoke := rfl
@[simp] theorem countSupply_light (s : State) (f : SupplyCounters → SupplyCounters) : (s.countSupply f).light = s.light := rfl
@[simp] theorem countSupply_supply (s : State) (f : SupplyCounters → SupplyCounters) : (s.countSupply f).supply = s.supply := rfl
@[simp] theorem countSupply_freeCount (s : State) (f : SupplyCounters → SupplyCounters) : (s.countSupply f).freeCount = s.freeCount := rfl
@[simp] theorem countSupply_pending (s : State) (f : SupplyCounters → SupplyCounters) : (s.countSupply f).pending = s.pending := rfl

/-! ## startLine -/

@[simp] theorem startLine_now (s : State) : s.startLine.now = s.now := rfl
@[simp] theorem startLine_mode (s : State) : s.startLine.mode = s.mode := rfl
@[simp] theorem startLine_cause (s : State) : s.startLine.cause = s.cause := rfl
@[simp] theorem startLine_tables (s : State) : s.startLine.tables = s.tables := rfl
@[simp] theorem startLine_counters (s : State) : s.startLine.counters = s.counters := rfl
@[simp] theorem startLine_link (s : State) : s.startLine.link = s.link.startLine := rfl
@[simp] theorem startLine_radio (s : State) : s.startLine.radio = s.radio := rfl
@[simp] theorem startLine_control (s : State) : s.startLine.control = s.control := rfl
@[simp] theorem startLine_motion (s : State) : s.startLine.motion = s.motion := rfl
@[simp] theorem startLine_bridge (s : State) : s.startLine.bridge = s.bridge := rfl
@[simp] theorem startLine_cadence (s : State) : s.startLine.cadence = s.cadence := rfl
@[simp] theorem startLine_sound (s : State) : s.startLine.sound = s.sound := rfl
@[simp] theorem startLine_store (s : State) : s.startLine.store = s.store := rfl
@[simp] theorem startLine_flash (s : State) : s.startLine.flash = s.flash := rfl
@[simp] theorem startLine_audio (s : State) : s.startLine.audio = s.audio := rfl
@[simp] theorem startLine_smoke (s : State) : s.startLine.smoke = s.smoke := rfl
@[simp] theorem startLine_light (s : State) : s.startLine.light = s.light := rfl
@[simp] theorem startLine_supply (s : State) : s.startLine.supply = s.supply := rfl
@[simp] theorem startLine_freeCount (s : State) : s.startLine.freeCount = s.freeCount := rfl
@[simp] theorem startLine_pending (s : State) : s.startLine.pending = s.pending := rfl

/-! ## arbitrate -/

@[simp] theorem arbitrate_now (s : State) : s.arbitrate.now = s.now := rfl
@[simp] theorem arbitrate_mode (s : State) : s.arbitrate.mode = s.mode := rfl
@[simp] theorem arbitrate_cause (s : State) : s.arbitrate.cause = s.cause := rfl
@[simp] theorem arbitrate_tables (s : State) : s.arbitrate.tables = s.tables := rfl
@[simp] theorem arbitrate_counters (s : State) : s.arbitrate.counters = s.counters := rfl
@[simp] theorem arbitrate_link (s : State) : s.arbitrate.link = s.link := rfl
@[simp] theorem arbitrate_radio (s : State) : s.arbitrate.radio = s.radio := rfl
@[simp] theorem arbitrate_control (s : State) : s.arbitrate.control = s.control := rfl
@[simp] theorem arbitrate_motion (s : State) : s.arbitrate.motion = s.motion := rfl
@[simp] theorem arbitrate_bridge (s : State) : s.arbitrate.bridge = s.bridge := rfl
@[simp] theorem arbitrate_cadence (s : State) : s.arbitrate.cadence = s.cadence := rfl
@[simp] theorem arbitrate_sound (s : State) : s.arbitrate.sound = s.sound := rfl
@[simp] theorem arbitrate_store (s : State) : s.arbitrate.store = s.store.arbitrate s.now := rfl
@[simp] theorem arbitrate_flash (s : State) : s.arbitrate.flash = s.flash := rfl
@[simp] theorem arbitrate_audio (s : State) : s.arbitrate.audio = s.audio := rfl
@[simp] theorem arbitrate_smoke (s : State) : s.arbitrate.smoke = s.smoke := rfl
@[simp] theorem arbitrate_light (s : State) : s.arbitrate.light = s.light := rfl
@[simp] theorem arbitrate_supply (s : State) : s.arbitrate.supply = s.supply := rfl
@[simp] theorem arbitrate_freeCount (s : State) : s.arbitrate.freeCount = s.freeCount := rfl
@[simp] theorem arbitrate_pending (s : State) : s.arbitrate.pending = s.pending := rfl

/-! ## place -/

@[simp] theorem place_now (s : State) : s.place.now = s.now := rfl
@[simp] theorem place_mode (s : State) : s.place.mode = s.mode := rfl
@[simp] theorem place_cause (s : State) : s.place.cause = s.cause := rfl
@[simp] theorem place_tables (s : State) : s.place.tables = s.tables := rfl
@[simp] theorem place_counters (s : State) : s.place.counters = s.counters := rfl
@[simp] theorem place_link (s : State) : s.place.link = s.link.place := rfl
@[simp] theorem place_radio (s : State) : s.place.radio = s.radio := rfl
@[simp] theorem place_control (s : State) : s.place.control = s.control := rfl
@[simp] theorem place_motion (s : State) : s.place.motion = s.motion := rfl
@[simp] theorem place_bridge (s : State) : s.place.bridge = s.bridge := rfl
@[simp] theorem place_cadence (s : State) : s.place.cadence = s.cadence := rfl
@[simp] theorem place_sound (s : State) : s.place.sound = s.sound := rfl
@[simp] theorem place_store (s : State) : s.place.store = s.store := rfl
@[simp] theorem place_flash (s : State) : s.place.flash = s.flash := rfl
@[simp] theorem place_audio (s : State) : s.place.audio = s.audio := rfl
@[simp] theorem place_smoke (s : State) : s.place.smoke = s.smoke := rfl
@[simp] theorem place_light (s : State) : s.place.light = s.light := rfl
@[simp] theorem place_supply (s : State) : s.place.supply = s.supply := rfl
@[simp] theorem place_freeCount (s : State) : s.place.freeCount = s.freeCount := rfl
@[simp] theorem place_pending (s : State) : s.place.pending = s.pending := rfl

/-! ## withLink -/

@[simp] theorem withLink_now (s : State) (l : Link) : (s.withLink l).now = s.now := rfl
@[simp] theorem withLink_mode (s : State) (l : Link) : (s.withLink l).mode = s.mode := rfl
@[simp] theorem withLink_cause (s : State) (l : Link) : (s.withLink l).cause = s.cause := rfl
@[simp] theorem withLink_tables (s : State) (l : Link) : (s.withLink l).tables = s.tables := rfl
@[simp] theorem withLink_counters (s : State) (l : Link) : (s.withLink l).counters = s.counters := rfl
@[simp] theorem withLink_link (s : State) (l : Link) : (s.withLink l).link = l := rfl
@[simp] theorem withLink_radio (s : State) (l : Link) : (s.withLink l).radio = s.radio := rfl
@[simp] theorem withLink_control (s : State) (l : Link) : (s.withLink l).control = s.control := rfl
@[simp] theorem withLink_motion (s : State) (l : Link) : (s.withLink l).motion = s.motion := rfl
@[simp] theorem withLink_bridge (s : State) (l : Link) : (s.withLink l).bridge = s.bridge := rfl
@[simp] theorem withLink_cadence (s : State) (l : Link) : (s.withLink l).cadence = s.cadence := rfl
@[simp] theorem withLink_sound (s : State) (l : Link) : (s.withLink l).sound = s.sound := rfl
@[simp] theorem withLink_store (s : State) (l : Link) : (s.withLink l).store = s.store := rfl
@[simp] theorem withLink_flash (s : State) (l : Link) : (s.withLink l).flash = s.flash := rfl
@[simp] theorem withLink_audio (s : State) (l : Link) : (s.withLink l).audio = s.audio := rfl
@[simp] theorem withLink_smoke (s : State) (l : Link) : (s.withLink l).smoke = s.smoke := rfl
@[simp] theorem withLink_light (s : State) (l : Link) : (s.withLink l).light = s.light := rfl
@[simp] theorem withLink_supply (s : State) (l : Link) : (s.withLink l).supply = s.supply := rfl
@[simp] theorem withLink_freeCount (s : State) (l : Link) : (s.withLink l).freeCount = s.freeCount := rfl
@[simp] theorem withLink_pending (s : State) (l : Link) : (s.withLink l).pending = s.pending := rfl

/-! ## withControl -/

@[simp] theorem withControl_now (s : State) (k : Control) : (s.withControl k).now = s.now := rfl
@[simp] theorem withControl_mode (s : State) (k : Control) : (s.withControl k).mode = s.mode := rfl
@[simp] theorem withControl_cause (s : State) (k : Control) : (s.withControl k).cause = s.cause := rfl
@[simp] theorem withControl_tables (s : State) (k : Control) : (s.withControl k).tables = s.tables := rfl
@[simp] theorem withControl_counters (s : State) (k : Control) : (s.withControl k).counters = s.counters := rfl
@[simp] theorem withControl_link (s : State) (k : Control) : (s.withControl k).link = s.link := rfl
@[simp] theorem withControl_radio (s : State) (k : Control) : (s.withControl k).radio = s.radio := rfl
@[simp] theorem withControl_control (s : State) (k : Control) : (s.withControl k).control = k.recompute := rfl
@[simp] theorem withControl_motion (s : State) (k : Control) : (s.withControl k).motion = s.motion := rfl
@[simp] theorem withControl_bridge (s : State) (k : Control) : (s.withControl k).bridge = s.bridge := rfl
@[simp] theorem withControl_cadence (s : State) (k : Control) : (s.withControl k).cadence = s.cadence := rfl
@[simp] theorem withControl_sound (s : State) (k : Control) : (s.withControl k).sound = s.sound := rfl
@[simp] theorem withControl_store (s : State) (k : Control) : (s.withControl k).store = s.store := rfl
@[simp] theorem withControl_flash (s : State) (k : Control) : (s.withControl k).flash = s.flash := rfl
@[simp] theorem withControl_audio (s : State) (k : Control) : (s.withControl k).audio = s.audio := rfl
@[simp] theorem withControl_smoke (s : State) (k : Control) : (s.withControl k).smoke = s.smoke := rfl
@[simp] theorem withControl_light (s : State) (k : Control) : (s.withControl k).light = s.light := rfl
@[simp] theorem withControl_supply (s : State) (k : Control) : (s.withControl k).supply = s.supply := rfl
@[simp] theorem withControl_freeCount (s : State) (k : Control) : (s.withControl k).freeCount = s.freeCount := rfl
@[simp] theorem withControl_pending (s : State) (k : Control) : (s.withControl k).pending = s.pending := rfl

/-! ## withCadence -/

@[simp] theorem withCadence_now (s : State) (k : Cadence) : (s.withCadence k).now = s.now := rfl
@[simp] theorem withCadence_mode (s : State) (k : Cadence) : (s.withCadence k).mode = s.mode := rfl
@[simp] theorem withCadence_cause (s : State) (k : Cadence) : (s.withCadence k).cause = s.cause := rfl
@[simp] theorem withCadence_tables (s : State) (k : Cadence) : (s.withCadence k).tables = s.tables := rfl
@[simp] theorem withCadence_counters (s : State) (k : Cadence) : (s.withCadence k).counters = s.counters := rfl
@[simp] theorem withCadence_link (s : State) (k : Cadence) : (s.withCadence k).link = s.link := rfl
@[simp] theorem withCadence_radio (s : State) (k : Cadence) : (s.withCadence k).radio = s.radio := rfl
@[simp] theorem withCadence_control (s : State) (k : Cadence) : (s.withCadence k).control = s.control := rfl
@[simp] theorem withCadence_motion (s : State) (k : Cadence) : (s.withCadence k).motion = s.motion := rfl
@[simp] theorem withCadence_bridge (s : State) (k : Cadence) : (s.withCadence k).bridge = s.bridge := rfl
@[simp] theorem withCadence_cadence (s : State) (k : Cadence) : (s.withCadence k).cadence = k := rfl
@[simp] theorem withCadence_sound (s : State) (k : Cadence) : (s.withCadence k).sound = s.sound := rfl
@[simp] theorem withCadence_store (s : State) (k : Cadence) : (s.withCadence k).store = s.store := rfl
@[simp] theorem withCadence_flash (s : State) (k : Cadence) : (s.withCadence k).flash = s.flash := rfl
@[simp] theorem withCadence_audio (s : State) (k : Cadence) : (s.withCadence k).audio = s.audio := rfl
@[simp] theorem withCadence_smoke (s : State) (k : Cadence) : (s.withCadence k).smoke = s.smoke := rfl
@[simp] theorem withCadence_light (s : State) (k : Cadence) : (s.withCadence k).light = s.light := rfl
@[simp] theorem withCadence_supply (s : State) (k : Cadence) : (s.withCadence k).supply = s.supply := rfl
@[simp] theorem withCadence_freeCount (s : State) (k : Cadence) : (s.withCadence k).freeCount = s.freeCount := rfl
@[simp] theorem withCadence_pending (s : State) (k : Cadence) : (s.withCadence k).pending = s.pending := rfl

/-! ## withSupply -/

@[simp] theorem withSupply_now (s : State) (u : Supply) : (s.withSupply u).now = s.now := rfl
@[simp] theorem withSupply_mode (s : State) (u : Supply) : (s.withSupply u).mode = s.mode := rfl
@[simp] theorem withSupply_cause (s : State) (u : Supply) : (s.withSupply u).cause = s.cause := rfl
@[simp] theorem withSupply_tables (s : State) (u : Supply) : (s.withSupply u).tables = s.tables := rfl
@[simp] theorem withSupply_counters (s : State) (u : Supply) : (s.withSupply u).counters = s.counters := rfl
@[simp] theorem withSupply_link (s : State) (u : Supply) : (s.withSupply u).link = s.link := rfl
@[simp] theorem withSupply_radio (s : State) (u : Supply) : (s.withSupply u).radio = s.radio := rfl
@[simp] theorem withSupply_control (s : State) (u : Supply) : (s.withSupply u).control = s.control := rfl
@[simp] theorem withSupply_motion (s : State) (u : Supply) : (s.withSupply u).motion = s.motion := rfl
@[simp] theorem withSupply_bridge (s : State) (u : Supply) : (s.withSupply u).bridge = s.bridge := rfl
@[simp] theorem withSupply_cadence (s : State) (u : Supply) : (s.withSupply u).cadence = s.cadence := rfl
@[simp] theorem withSupply_sound (s : State) (u : Supply) : (s.withSupply u).sound = s.sound := rfl
@[simp] theorem withSupply_store (s : State) (u : Supply) : (s.withSupply u).store = s.store := rfl
@[simp] theorem withSupply_flash (s : State) (u : Supply) : (s.withSupply u).flash = s.flash := rfl
@[simp] theorem withSupply_audio (s : State) (u : Supply) : (s.withSupply u).audio = s.audio := rfl
@[simp] theorem withSupply_smoke (s : State) (u : Supply) : (s.withSupply u).smoke = s.smoke := rfl
@[simp] theorem withSupply_light (s : State) (u : Supply) : (s.withSupply u).light = s.light := rfl
@[simp] theorem withSupply_supply (s : State) (u : Supply) : (s.withSupply u).supply = u := rfl
@[simp] theorem withSupply_freeCount (s : State) (u : Supply) : (s.withSupply u).freeCount = s.freeCount := rfl
@[simp] theorem withSupply_pending (s : State) (u : Supply) : (s.withSupply u).pending = s.pending := rfl

/-! ## withTables -/

@[simp] theorem withTables_now (s : State) (t : Tables) : (s.withTables t).now = s.now := rfl
@[simp] theorem withTables_mode (s : State) (t : Tables) : (s.withTables t).mode = s.mode := rfl
@[simp] theorem withTables_cause (s : State) (t : Tables) : (s.withTables t).cause = s.cause := rfl
@[simp] theorem withTables_tables (s : State) (t : Tables) : (s.withTables t).tables = t := rfl
@[simp] theorem withTables_counters (s : State) (t : Tables) : (s.withTables t).counters = s.counters := rfl
@[simp] theorem withTables_link (s : State) (t : Tables) : (s.withTables t).link = s.link := rfl
@[simp] theorem withTables_radio (s : State) (t : Tables) : (s.withTables t).radio = s.radio := rfl
@[simp] theorem withTables_control (s : State) (t : Tables) : (s.withTables t).control = s.control := rfl
@[simp] theorem withTables_motion (s : State) (t : Tables) : (s.withTables t).motion = s.motion := rfl
@[simp] theorem withTables_bridge (s : State) (t : Tables) : (s.withTables t).bridge = s.bridge := rfl
@[simp] theorem withTables_cadence (s : State) (t : Tables) : (s.withTables t).cadence = s.cadence := rfl
@[simp] theorem withTables_sound (s : State) (t : Tables) : (s.withTables t).sound = s.sound := rfl
@[simp] theorem withTables_store (s : State) (t : Tables) : (s.withTables t).store = s.store := rfl
@[simp] theorem withTables_flash (s : State) (t : Tables) : (s.withTables t).flash = s.flash := rfl
@[simp] theorem withTables_audio (s : State) (t : Tables) : (s.withTables t).audio = s.audio := rfl
@[simp] theorem withTables_smoke (s : State) (t : Tables) : (s.withTables t).smoke = s.smoke := rfl
@[simp] theorem withTables_light (s : State) (t : Tables) : (s.withTables t).light = s.light := rfl
@[simp] theorem withTables_supply (s : State) (t : Tables) : (s.withTables t).supply = s.supply := rfl
@[simp] theorem withTables_freeCount (s : State) (t : Tables) : (s.withTables t).freeCount = s.freeCount := rfl
@[simp] theorem withTables_pending (s : State) (t : Tables) : (s.withTables t).pending = s.pending := rfl

/-! ## setVoice -/

@[simp] theorem setVoice_now (s : State) (i : Fin 8) (v : Voice) : (s.setVoice i v).now = s.now := rfl
@[simp] theorem setVoice_mode (s : State) (i : Fin 8) (v : Voice) : (s.setVoice i v).mode = s.mode := rfl
@[simp] theorem setVoice_cause (s : State) (i : Fin 8) (v : Voice) : (s.setVoice i v).cause = s.cause := rfl
@[simp] theorem setVoice_tables (s : State) (i : Fin 8) (v : Voice) : (s.setVoice i v).tables = s.tables := rfl
@[simp] theorem setVoice_counters (s : State) (i : Fin 8) (v : Voice) : (s.setVoice i v).counters = s.counters := rfl
@[simp] theorem setVoice_link (s : State) (i : Fin 8) (v : Voice) : (s.setVoice i v).link = s.link := rfl
@[simp] theorem setVoice_radio (s : State) (i : Fin 8) (v : Voice) : (s.setVoice i v).radio = s.radio := rfl
@[simp] theorem setVoice_control (s : State) (i : Fin 8) (v : Voice) : (s.setVoice i v).control = s.control := rfl
@[simp] theorem setVoice_motion (s : State) (i : Fin 8) (v : Voice) : (s.setVoice i v).motion = s.motion := rfl
@[simp] theorem setVoice_bridge (s : State) (i : Fin 8) (v : Voice) : (s.setVoice i v).bridge = s.bridge := rfl
@[simp] theorem setVoice_cadence (s : State) (i : Fin 8) (v : Voice) : (s.setVoice i v).cadence = s.cadence := rfl
@[simp] theorem setVoice_sound (s : State) (i : Fin 8) (v : Voice) : (s.setVoice i v).sound = { s.sound with voices := s.sound.voices.set i v } := rfl
@[simp] theorem setVoice_store (s : State) (i : Fin 8) (v : Voice) : (s.setVoice i v).store = s.store := rfl
@[simp] theorem setVoice_flash (s : State) (i : Fin 8) (v : Voice) : (s.setVoice i v).flash = s.flash := rfl
@[simp] theorem setVoice_audio (s : State) (i : Fin 8) (v : Voice) : (s.setVoice i v).audio = s.audio := rfl
@[simp] theorem setVoice_smoke (s : State) (i : Fin 8) (v : Voice) : (s.setVoice i v).smoke = s.smoke := rfl
@[simp] theorem setVoice_light (s : State) (i : Fin 8) (v : Voice) : (s.setVoice i v).light = s.light := rfl
@[simp] theorem setVoice_supply (s : State) (i : Fin 8) (v : Voice) : (s.setVoice i v).supply = s.supply := rfl
@[simp] theorem setVoice_freeCount (s : State) (i : Fin 8) (v : Voice) : (s.setVoice i v).freeCount = s.freeCount := rfl
@[simp] theorem setVoice_pending (s : State) (i : Fin 8) (v : Voice) : (s.setVoice i v).pending = s.pending := rfl

/-! ## setBuffers -/

@[simp] theorem setBuffers_now (s : State) (i : Fin 8) (b : VoiceBuffers) : (s.setBuffers i b).now = s.now := rfl
@[simp] theorem setBuffers_mode (s : State) (i : Fin 8) (b : VoiceBuffers) : (s.setBuffers i b).mode = s.mode := rfl
@[simp] theorem setBuffers_cause (s : State) (i : Fin 8) (b : VoiceBuffers) : (s.setBuffers i b).cause = s.cause := rfl
@[simp] theorem setBuffers_tables (s : State) (i : Fin 8) (b : VoiceBuffers) : (s.setBuffers i b).tables = s.tables := rfl
@[simp] theorem setBuffers_counters (s : State) (i : Fin 8) (b : VoiceBuffers) : (s.setBuffers i b).counters = s.counters := rfl
@[simp] theorem setBuffers_link (s : State) (i : Fin 8) (b : VoiceBuffers) : (s.setBuffers i b).link = s.link := rfl
@[simp] theorem setBuffers_radio (s : State) (i : Fin 8) (b : VoiceBuffers) : (s.setBuffers i b).radio = s.radio := rfl
@[simp] theorem setBuffers_control (s : State) (i : Fin 8) (b : VoiceBuffers) : (s.setBuffers i b).control = s.control := rfl
@[simp] theorem setBuffers_motion (s : State) (i : Fin 8) (b : VoiceBuffers) : (s.setBuffers i b).motion = s.motion := rfl
@[simp] theorem setBuffers_bridge (s : State) (i : Fin 8) (b : VoiceBuffers) : (s.setBuffers i b).bridge = s.bridge := rfl
@[simp] theorem setBuffers_cadence (s : State) (i : Fin 8) (b : VoiceBuffers) : (s.setBuffers i b).cadence = s.cadence := rfl
@[simp] theorem setBuffers_sound (s : State) (i : Fin 8) (b : VoiceBuffers) : (s.setBuffers i b).sound = s.sound := rfl
@[simp] theorem setBuffers_store (s : State) (i : Fin 8) (b : VoiceBuffers) : (s.setBuffers i b).store = { s.store with buffers := s.store.buffers.set i b } := rfl
@[simp] theorem setBuffers_flash (s : State) (i : Fin 8) (b : VoiceBuffers) : (s.setBuffers i b).flash = s.flash := rfl
@[simp] theorem setBuffers_audio (s : State) (i : Fin 8) (b : VoiceBuffers) : (s.setBuffers i b).audio = s.audio := rfl
@[simp] theorem setBuffers_smoke (s : State) (i : Fin 8) (b : VoiceBuffers) : (s.setBuffers i b).smoke = s.smoke := rfl
@[simp] theorem setBuffers_light (s : State) (i : Fin 8) (b : VoiceBuffers) : (s.setBuffers i b).light = s.light := rfl
@[simp] theorem setBuffers_supply (s : State) (i : Fin 8) (b : VoiceBuffers) : (s.setBuffers i b).supply = s.supply := rfl
@[simp] theorem setBuffers_freeCount (s : State) (i : Fin 8) (b : VoiceBuffers) : (s.setBuffers i b).freeCount = s.freeCount := rfl
@[simp] theorem setBuffers_pending (s : State) (i : Fin 8) (b : VoiceBuffers) : (s.setBuffers i b).pending = s.pending := rfl

/-! ## acceptOp -/

@[simp] theorem acceptOp_now (s : State) (op : StoreOp) : (s.acceptOp op).now = s.now := rfl
@[simp] theorem acceptOp_mode (s : State) (op : StoreOp) : (s.acceptOp op).mode = s.mode := rfl
@[simp] theorem acceptOp_cause (s : State) (op : StoreOp) : (s.acceptOp op).cause = s.cause := rfl
@[simp] theorem acceptOp_tables (s : State) (op : StoreOp) : (s.acceptOp op).tables = s.tables := rfl
@[simp] theorem acceptOp_counters (s : State) (op : StoreOp) : (s.acceptOp op).counters = s.counters := rfl
@[simp] theorem acceptOp_link (s : State) (op : StoreOp) : (s.acceptOp op).link = s.link := rfl
@[simp] theorem acceptOp_radio (s : State) (op : StoreOp) : (s.acceptOp op).radio = s.radio := rfl
@[simp] theorem acceptOp_control (s : State) (op : StoreOp) : (s.acceptOp op).control = s.control := rfl
@[simp] theorem acceptOp_motion (s : State) (op : StoreOp) : (s.acceptOp op).motion = s.motion := rfl
@[simp] theorem acceptOp_bridge (s : State) (op : StoreOp) : (s.acceptOp op).bridge = s.bridge := rfl
@[simp] theorem acceptOp_cadence (s : State) (op : StoreOp) : (s.acceptOp op).cadence = s.cadence := rfl
@[simp] theorem acceptOp_sound (s : State) (op : StoreOp) : (s.acceptOp op).sound = s.sound := rfl
@[simp] theorem acceptOp_store (s : State) (op : StoreOp) : (s.acceptOp op).store = { s.store with op := some op } := rfl
@[simp] theorem acceptOp_flash (s : State) (op : StoreOp) : (s.acceptOp op).flash = s.flash := rfl
@[simp] theorem acceptOp_audio (s : State) (op : StoreOp) : (s.acceptOp op).audio = s.audio := rfl
@[simp] theorem acceptOp_smoke (s : State) (op : StoreOp) : (s.acceptOp op).smoke = s.smoke := rfl
@[simp] theorem acceptOp_light (s : State) (op : StoreOp) : (s.acceptOp op).light = s.light := rfl
@[simp] theorem acceptOp_supply (s : State) (op : StoreOp) : (s.acceptOp op).supply = s.supply := rfl
@[simp] theorem acceptOp_freeCount (s : State) (op : StoreOp) : (s.acceptOp op).freeCount = s.freeCount := rfl
@[simp] theorem acceptOp_pending (s : State) (op : StoreOp) : (s.acceptOp op).pending = s.pending := rfl

/-! ## leaveOp -/

@[simp] theorem leaveOp_now (s : State) (p : PortState) : (s.leaveOp p).now = s.now := rfl
@[simp] theorem leaveOp_mode (s : State) (p : PortState) : (s.leaveOp p).mode = s.mode := rfl
@[simp] theorem leaveOp_cause (s : State) (p : PortState) : (s.leaveOp p).cause = s.cause := rfl
@[simp] theorem leaveOp_tables (s : State) (p : PortState) : (s.leaveOp p).tables = s.tables := rfl
@[simp] theorem leaveOp_counters (s : State) (p : PortState) : (s.leaveOp p).counters = s.counters := rfl
@[simp] theorem leaveOp_link (s : State) (p : PortState) : (s.leaveOp p).link = s.link := rfl
@[simp] theorem leaveOp_radio (s : State) (p : PortState) : (s.leaveOp p).radio = s.radio := rfl
@[simp] theorem leaveOp_control (s : State) (p : PortState) : (s.leaveOp p).control = s.control := rfl
@[simp] theorem leaveOp_motion (s : State) (p : PortState) : (s.leaveOp p).motion = s.motion := rfl
@[simp] theorem leaveOp_bridge (s : State) (p : PortState) : (s.leaveOp p).bridge = s.bridge := rfl
@[simp] theorem leaveOp_cadence (s : State) (p : PortState) : (s.leaveOp p).cadence = s.cadence := rfl
@[simp] theorem leaveOp_sound (s : State) (p : PortState) : (s.leaveOp p).sound = s.sound := rfl
@[simp] theorem leaveOp_store (s : State) (p : PortState) : (s.leaveOp p).store = { s.store with op := none, port := p } := rfl
@[simp] theorem leaveOp_flash (s : State) (p : PortState) : (s.leaveOp p).flash = s.flash := rfl
@[simp] theorem leaveOp_audio (s : State) (p : PortState) : (s.leaveOp p).audio = s.audio := rfl
@[simp] theorem leaveOp_smoke (s : State) (p : PortState) : (s.leaveOp p).smoke = s.smoke := rfl
@[simp] theorem leaveOp_light (s : State) (p : PortState) : (s.leaveOp p).light = s.light := rfl
@[simp] theorem leaveOp_supply (s : State) (p : PortState) : (s.leaveOp p).supply = s.supply := rfl
@[simp] theorem leaveOp_freeCount (s : State) (p : PortState) : (s.leaveOp p).freeCount = s.freeCount := rfl
@[simp] theorem leaveOp_pending (s : State) (p : PortState) : (s.leaveOp p).pending = s.pending := rfl

/-! ## assemble -/

@[simp] theorem assemble_now (s : State) (a : Assembler) : (s.assemble a).now = s.now := rfl
@[simp] theorem assemble_mode (s : State) (a : Assembler) : (s.assemble a).mode = s.mode := rfl
@[simp] theorem assemble_cause (s : State) (a : Assembler) : (s.assemble a).cause = s.cause := rfl
@[simp] theorem assemble_tables (s : State) (a : Assembler) : (s.assemble a).tables = s.tables := rfl
@[simp] theorem assemble_counters (s : State) (a : Assembler) : (s.assemble a).counters = s.counters := rfl
@[simp] theorem assemble_link (s : State) (a : Assembler) : (s.assemble a).link = s.link := rfl
@[simp] theorem assemble_radio (s : State) (a : Assembler) : (s.assemble a).radio = { s.radio with assembler := a } := rfl
@[simp] theorem assemble_control (s : State) (a : Assembler) : (s.assemble a).control = s.control := rfl
@[simp] theorem assemble_motion (s : State) (a : Assembler) : (s.assemble a).motion = s.motion := rfl
@[simp] theorem assemble_bridge (s : State) (a : Assembler) : (s.assemble a).bridge = s.bridge := rfl
@[simp] theorem assemble_cadence (s : State) (a : Assembler) : (s.assemble a).cadence = s.cadence := rfl
@[simp] theorem assemble_sound (s : State) (a : Assembler) : (s.assemble a).sound = s.sound := rfl
@[simp] theorem assemble_store (s : State) (a : Assembler) : (s.assemble a).store = s.store := rfl
@[simp] theorem assemble_flash (s : State) (a : Assembler) : (s.assemble a).flash = s.flash := rfl
@[simp] theorem assemble_audio (s : State) (a : Assembler) : (s.assemble a).audio = s.audio := rfl
@[simp] theorem assemble_smoke (s : State) (a : Assembler) : (s.assemble a).smoke = s.smoke := rfl
@[simp] theorem assemble_light (s : State) (a : Assembler) : (s.assemble a).light = s.light := rfl
@[simp] theorem assemble_supply (s : State) (a : Assembler) : (s.assemble a).supply = s.supply := rfl
@[simp] theorem assemble_freeCount (s : State) (a : Assembler) : (s.assemble a).freeCount = s.freeCount := rfl
@[simp] theorem assemble_pending (s : State) (a : Assembler) : (s.assemble a).pending = s.pending := rfl

/-! ## smokeDecide -/

@[simp] theorem smokeDecide_now (s : State) : s.smokeDecide.now = s.now := rfl
@[simp] theorem smokeDecide_mode (s : State) : s.smokeDecide.mode = s.mode := rfl
@[simp] theorem smokeDecide_cause (s : State) : s.smokeDecide.cause = s.cause := rfl
@[simp] theorem smokeDecide_tables (s : State) : s.smokeDecide.tables = s.tables := rfl
@[simp] theorem smokeDecide_counters (s : State) : s.smokeDecide.counters = s.counters := rfl
@[simp] theorem smokeDecide_link (s : State) : s.smokeDecide.link = s.link := rfl
@[simp] theorem smokeDecide_radio (s : State) : s.smokeDecide.radio = s.radio := rfl
@[simp] theorem smokeDecide_control (s : State) : s.smokeDecide.control = s.control := rfl
@[simp] theorem smokeDecide_motion (s : State) : s.smokeDecide.motion = s.motion := rfl
@[simp] theorem smokeDecide_bridge (s : State) : s.smokeDecide.bridge = s.bridge := rfl
@[simp] theorem smokeDecide_cadence (s : State) : s.smokeDecide.cadence = s.cadence := rfl
@[simp] theorem smokeDecide_sound (s : State) : s.smokeDecide.sound = s.sound := rfl
@[simp] theorem smokeDecide_store (s : State) : s.smokeDecide.store = s.store := rfl
@[simp] theorem smokeDecide_flash (s : State) : s.smokeDecide.flash = s.flash := rfl
@[simp] theorem smokeDecide_audio (s : State) : s.smokeDecide.audio = s.audio := rfl
@[simp] theorem smokeDecide_smoke (s : State) : s.smokeDecide.smoke = s.smoke.decide s.tables.smoke s.mode s.control.flags.smoke s.supply.shed s.supply.state := rfl
@[simp] theorem smokeDecide_light (s : State) : s.smokeDecide.light = s.light := rfl
@[simp] theorem smokeDecide_supply (s : State) : s.smokeDecide.supply = s.supply := rfl
@[simp] theorem smokeDecide_freeCount (s : State) : s.smokeDecide.freeCount = s.freeCount := rfl
@[simp] theorem smokeDecide_pending (s : State) : s.smokeDecide.pending = s.pending := rfl

/-! ## motionEntry -/

@[simp] theorem motionEntry_now (s : State) : s.motionEntry.now = s.now := rfl
@[simp] theorem motionEntry_mode (s : State) : s.motionEntry.mode = s.mode := rfl
@[simp] theorem motionEntry_cause (s : State) : s.motionEntry.cause = s.cause := rfl
@[simp] theorem motionEntry_tables (s : State) : s.motionEntry.tables = s.tables := rfl
@[simp] theorem motionEntry_counters (s : State) : s.motionEntry.counters = s.counters := rfl
@[simp] theorem motionEntry_link (s : State) : s.motionEntry.link = s.link := rfl
@[simp] theorem motionEntry_radio (s : State) : s.motionEntry.radio = s.radio := rfl
@[simp] theorem motionEntry_control (s : State) : s.motionEntry.control = s.control := rfl
@[simp] theorem motionEntry_motion (s : State) : s.motionEntry.motion = {} := rfl
@[simp] theorem motionEntry_bridge (s : State) : s.motionEntry.bridge = s.bridge := rfl
@[simp] theorem motionEntry_cadence (s : State) : s.motionEntry.cadence = s.cadence := rfl
@[simp] theorem motionEntry_sound (s : State) : s.motionEntry.sound = s.sound := rfl
@[simp] theorem motionEntry_store (s : State) : s.motionEntry.store = s.store := rfl
@[simp] theorem motionEntry_flash (s : State) : s.motionEntry.flash = s.flash := rfl
@[simp] theorem motionEntry_audio (s : State) : s.motionEntry.audio = s.audio := rfl
@[simp] theorem motionEntry_smoke (s : State) : s.motionEntry.smoke = s.smoke := rfl
@[simp] theorem motionEntry_light (s : State) : s.motionEntry.light = s.light := rfl
@[simp] theorem motionEntry_supply (s : State) : s.motionEntry.supply = s.supply := rfl
@[simp] theorem motionEntry_freeCount (s : State) : s.motionEntry.freeCount = s.freeCount := rfl
@[simp] theorem motionEntry_pending (s : State) : s.motionEntry.pending = s.pending := rfl

/-! ## readCurrent -/

@[simp] theorem readCurrent_now (s : State) (n : Nat) : (s.readCurrent n).now = s.now := rfl
@[simp] theorem readCurrent_mode (s : State) (n : Nat) : (s.readCurrent n).mode = s.mode := rfl
@[simp] theorem readCurrent_cause (s : State) (n : Nat) : (s.readCurrent n).cause = s.cause := rfl
@[simp] theorem readCurrent_tables (s : State) (n : Nat) : (s.readCurrent n).tables = s.tables := rfl
@[simp] theorem readCurrent_counters (s : State) (n : Nat) : (s.readCurrent n).counters = s.counters := rfl
@[simp] theorem readCurrent_link (s : State) (n : Nat) : (s.readCurrent n).link = s.link := rfl
@[simp] theorem readCurrent_radio (s : State) (n : Nat) : (s.readCurrent n).radio = s.radio := rfl
@[simp] theorem readCurrent_control (s : State) (n : Nat) : (s.readCurrent n).control = s.control := rfl
@[simp] theorem readCurrent_motion (s : State) (n : Nat) : (s.readCurrent n).motion = s.motion := rfl
@[simp] theorem readCurrent_bridge (s : State) (n : Nat) : (s.readCurrent n).bridge = { s.bridge with accumulation := s.bridge.accumulation.read n s.now } := rfl
@[simp] theorem readCurrent_cadence (s : State) (n : Nat) : (s.readCurrent n).cadence = s.cadence := rfl
@[simp] theorem readCurrent_sound (s : State) (n : Nat) : (s.readCurrent n).sound = s.sound := rfl
@[simp] theorem readCurrent_store (s : State) (n : Nat) : (s.readCurrent n).store = s.store := rfl
@[simp] theorem readCurrent_flash (s : State) (n : Nat) : (s.readCurrent n).flash = s.flash := rfl
@[simp] theorem readCurrent_audio (s : State) (n : Nat) : (s.readCurrent n).audio = s.audio := rfl
@[simp] theorem readCurrent_smoke (s : State) (n : Nat) : (s.readCurrent n).smoke = s.smoke := rfl
@[simp] theorem readCurrent_light (s : State) (n : Nat) : (s.readCurrent n).light = s.light := rfl
@[simp] theorem readCurrent_supply (s : State) (n : Nat) : (s.readCurrent n).supply = s.supply := rfl
@[simp] theorem readCurrent_freeCount (s : State) (n : Nat) : (s.readCurrent n).freeCount = s.freeCount := rfl
@[simp] theorem readCurrent_pending (s : State) (n : Nat) : (s.readCurrent n).pending = s.pending := rfl

end Sys2Proof.Machine
end

