-- ==== Sys2Proof/Laws/Ops.lean ====
section
/-! SUPPORT. What each shared operation can do, said once: the clock and its timers, the notice queue and the line, the
request buffer at rest, the flash port, the numbers of the formats, the legs of the bridge, the voices. -/

namespace Sys2Proof.Machine

/-! ## Numbers -/

/-- A count never passes 65535. -/
theorem bump_le (n : Nat) : bump n ≤ 65535 := by unfold bump; omega

/-- Below its top a count goes up by one. -/
theorem bump_of_lt {n : Nat} (h : n < 65535) : bump n = n + 1 := by unfold bump; omega

/-- A clamped number is in its range. -/
theorem clampTo_bounds (lo hi n : Nat) (h : lo ≤ hi) : lo ≤ clampTo lo hi n ∧ clampTo lo hi n ≤ hi := by
  unfold clampTo; omega

/-- A number of the range is clamped to itself. -/
theorem clampTo_of_mem {lo hi n : Nat} (h : lo ≤ n) (k : n ≤ hi) : clampTo lo hi n = n := by unfold clampTo; omega

/-- A number takes as many bytes as its width. -/
@[simp] theorem toBytes_length (w n : Nat) : (toBytes w n).length = w := by
  induction w with
  | zero => rfl
  | succ w ih => simp [toBytes, ih]

/-- The bytes read from the left, into a number read before. -/
theorem foldl_bytes (l : List Byte) (a : Nat) :
    l.foldl (fun acc b => acc * 256 + b.toNat) a = a * 256 ^ l.length + bigEndian l := by
  induction l generalizing a with
  | nil => simp [bigEndian]
  | cons b bs ih =>
    have h := ih b.toNat
    simp only [bigEndian, List.foldl_cons, List.length_cons, Nat.zero_mul, Nat.zero_add] at h ⊢
    rw [ih (a * 256 + b.toNat), h, Nat.pow_succ, Nat.add_mul, Nat.mul_assoc, Nat.mul_comm 256 (256 ^ bs.length)]
    simp only [bigEndian]
    omega

/-- A run of bytes read from its first byte. -/
theorem bigEndian_cons (b : Byte) (l : List Byte) : bigEndian (b :: l) = b.toNat * 256 ^ l.length + bigEndian l := by
  have h := foldl_bytes l (0 * 256 + b.toNat)
  simpa [bigEndian] using h

/-- A number written as bytes and read back is itself, up to its width. -/
theorem bigEndian_toBytes (w n : Nat) : bigEndian (toBytes w n) = n % 256 ^ w := by
  induction w with
  | zero => simp [toBytes, bigEndian, Nat.mod_one]
  | succ w ih =>
    have h : n % 256 ^ (w + 1) = n % 256 ^ w + 256 ^ w * (n / 256 ^ w % 256) := by rw [Nat.pow_succ, Nat.mod_mul]
    rw [h, toBytes, bigEndian_cons, toBytes_length, ih, BitVec.toNat_ofNat, Nat.mul_comm, Nat.add_comm]

/-- A number that fits its width is read back as it was written. -/
theorem bigEndian_toBytes_of_lt {w n : Nat} (h : n < 256 ^ w) : bigEndian (toBytes w n) = n := by
  rw [bigEndian_toBytes, Nat.mod_eq_of_lt h]

/-- A list of rules reads back the bytes it wrote for fields its rules leave as they are. -/
theorem readFields_writeFields (rules : List FieldRule) (fields : List Nat) (rest : List Byte)
    (hl : rules.length = fields.length)
    (h : ∀ p ∈ rules.zip fields, p.2 < 256 ^ p.1.width ∧ p.1.read p.2 = p.2 ∧ p.1.clamp p.2 = p.2) :
    readFields rules (writeFields rules fields ++ rest) = (fields, false) := by
  induction rules generalizing fields with
  | nil =>
    cases fields with
    | nil => rfl
    | cons n ns => simp at hl
  | cons r rs ih =>
    cases fields with
    | nil => simp at hl
    | cons n ns =>
      have h0 := h (r, n) (by simp)
      have hr := ih ns (by simpa using hl) (fun p hp => h p (by simp [hp]))
      simp only [writeFields, readFields, List.append_assoc]
      rw [List.take_append_of_le_length (by simp), List.drop_append_of_le_length (by simp)]
      have ht : (toBytes r.width n).take r.width = toBytes r.width n := List.take_of_length_le (by simp)
      have hd : (toBytes r.width n).drop r.width = [] := List.drop_of_length_le (by simp)
      rw [ht, hd, List.nil_append, hr, bigEndian_toBytes_of_lt h0.1, h0.2.1, h0.2.2]
      simp

/-! ## Timers -/

/-- A timer is due once its time has run. -/
theorem Timer.due_iff (t : Timer) (now : Nat) : t.due now = true ↔ t.since + t.ticks ≤ now := by simp [Timer.due]

/-- A timer is not due before its time. -/
theorem Timer.not_due_iff (t : Timer) (now : Nat) : t.due now = false ↔ now < t.since + t.ticks := by
  simp [Timer.due]

/-- A timer reads 0 ms exactly when it is due (R76, R93, R147). -/
theorem Timer.msLeft_zero_iff (t : Timer) (now : Nat) : t.msLeft now = 0 ↔ t.since + t.ticks ≤ now := by
  unfold Timer.msLeft Timer.left ticksPerMs; omega

/-! ## Notices and the line -/

/-- A notice in a queue with room joins its end with its timestamp. -/
theorem notify_room {s : State} (n : Notice) (h : s.link.notices.length < 16) :
    s.notify n = { s with link := { s.link with notices := s.link.notices ++ [s.noticed n] } } := by
  simp [State.notify, noticeCapacity, h, State.noticed]

/-- A notice for a full queue is dropped and sets the notices-lost flag. -/
theorem notify_full {s : State} (n : Notice) (h : 16 ≤ s.link.notices.length) :
    s.notify n = { s with link := { s.link with lost := true } } := by
  simp [State.notify, noticeCapacity, Nat.not_lt.mpr h]

/-- A notice leaves the line, the slot and the request buffer alone. -/
theorem notify_link (s : State) (n : Notice) :
    (s.notify n).link.onLine = s.link.onLine ∧ (s.notify n).link.slot = s.link.slot ∧
    (s.notify n).link.inService = s.link.inService ∧ (s.notify n).link.waiting = s.link.waiting ∧
    (s.notify n).link.receiver = s.link.receiver ∧ (s.notify n).link.hostLease = s.link.hostLease := by
  unfold State.notify
  split <;> exact ⟨rfl, rfl, rfl, rfl, rfl, rfl⟩

/-- The queue never passes its capacity. -/
theorem notify_length {s : State} (n : Notice) (h : s.link.notices.length ≤ 16) :
    (s.notify n).link.notices.length ≤ 16 := by
  unfold State.notify noticeCapacity
  split
  · simp only [List.length_append, List.length_cons, List.length_nil]; omega
  · exact h

/-- A busy line takes nothing. -/
theorem startLine_busy {l : Link} {x : Tx} (h : l.onLine = some x) : l.startLine = l := by
  unfold Link.startLine; simp [h]

/-- A quiet line takes the reply in the slot, before any notice. -/
theorem startLine_reply {l : Link} {r : Reply} (h : l.onLine = none) (k : l.slot = some r) :
    l.startLine = { l with onLine := some (.reply r), slot := none } := by
  unfold Link.startLine; simp [h, k]

/-- A quiet line with an empty slot takes the oldest notice. -/
theorem startLine_notice {l : Link} {n : NoticeEntry} {rest : List NoticeEntry} (h : l.onLine = none)
    (k : l.slot = none) (q : l.notices = n :: rest) :
    l.startLine = { l with onLine := some (.notice n), notices := rest } := by
  unfold Link.startLine; simp [h, k, q]

/-- A quiet line with nothing ready stays quiet. -/
theorem startLine_quiet {l : Link} (h : l.slot = none) (k : l.notices = []) : l.startLine = l := by
  unfold Link.startLine
  split <;> simp_all

/-- After the line has taken what it can, a quiet line has nothing ready. -/
theorem startLine_rests (l : Link) : l.startLine.onLine = none → l.startLine.slot = none ∧ l.startLine.notices = [] := by
  unfold Link.startLine
  split
  · simp
  · simp
  · rename_i h1 h2
    intro h
    rcases hs : l.slot with _ | r
    · rcases hn : l.notices with _ | ⟨n, rest⟩
      · exact ⟨rfl, rfl⟩
      · exact absurd hn (h2 n rest h hs)
    · exact absurd hs (h1 r h)

/-! ## The request buffer at rest -/

/-- No built reply waits: nothing is placed. -/
theorem place_of_not_built {l : Link} (h : l.replyBuilt = false) : l.place = l := by
  unfold Link.replyBuilt at h
  unfold Link.place
  split
  · rename_i v hv hs
    rw [hv] at h
    split
    · rename_i r hr
      simp [hr, Stage.isBuilt] at h
    · rfl
    · rfl
  · rfl

/-- A full slot takes no reply. -/
theorem place_of_full {l : Link} {r : Reply} (h : l.slot = some r) : l.place = l := by
  unfold Link.place; simp [h]

/-- A link at rest has no reply to place. -/
theorem place_rested {s : State} (h : s.linkRested) : s.link.place = s.link := by
  rcases hs : s.link.slot with _ | r
  · exact place_of_not_built (h.2.1 hs)
  · exact place_of_full hs

/-- A link at rest has nothing for its line. -/
theorem startLine_rested {s : State} (h : s.linkRested) : s.link.startLine = s.link := by
  rcases hl : s.link.onLine with _ | x
  · exact startLine_quiet (h.1 hl).1 (h.1 hl).2
  · exact startLine_busy hl

/-- A link at rest stays as it is at the end of an event of the Link Port. -/
theorem settle_rested {s : State} (h : s.linkRested) : s.settle = s := by
  have hp : s.place = s := by
    unfold State.place State.withLink; rw [place_rested h]
  have hl : s.startLine = s := by
    unfold State.startLine; rw [startLine_rested h]
  have hq : s.promote = s := by
    unfold State.promote
    split
    · rename_i t hn hw
      rw [h.2.2 hn] at hw
      cases hw
    · rfl
  unfold State.settle
  rw [hp, hl, hp, hq, hp, hl, hp]

/-! ## The flash port -/

/-- A busy port takes nothing. -/
theorem arbitrate_busy {t : Store} (now : Nat) (h : t.port ≠ .idle) : t.arbitrate now = t := by
  unfold Store.arbitrate
  split <;> simp_all

/-- An idle port takes the operation that waits, before any line. -/
theorem arbitrate_op {t : Store} {op : StoreOp} (now : Nat) (h : t.port = .idle) (k : t.op = some op) :
    t.arbitrate now = { t with port := .store, op := some { op with begun := some now } } := by
  unfold Store.arbitrate; simp [h, k]

/-- An idle port with no operation takes the preferred line request. -/
theorem arbitrate_line {t : Store} {r : WaitingRequest} (now : Nat) (h : t.port = .idle) (k : t.op = none)
    (q : t.nextRequest = some r) : t.arbitrate now = t.beginLine r now := by
  unfold Store.arbitrate; simp [h, k, q]

/-- A port at rest takes nothing. -/
theorem arbitrate_rested {s : State} (h : s.portRested) : s.arbitrate = s := by
  unfold State.arbitrate
  by_cases hp : s.store.port = .idle
  · have := h hp
    unfold Store.arbitrate
    simp [hp, this.1, this.2]
  · rw [arbitrate_busy _ hp]

/-- After the arbiter has acted, the port is at rest. -/
theorem arbitrate_rests (s : State) : s.arbitrate.portRested := by
  intro h
  unfold State.arbitrate at h ⊢
  simp only at h ⊢
  by_cases hp : s.store.port = .idle
  · rcases ho : s.store.op with _ | op
    · rcases hr : s.store.nextRequest with _ | r
      · have e : s.store.arbitrate s.now = s.store := by unfold Store.arbitrate; simp [hp, ho, hr]
        rw [e]; exact ⟨ho, hr⟩
      · rw [arbitrate_line _ hp ho hr] at h; simp [Store.beginLine] at h
    · rw [arbitrate_op _ hp ho] at h; simp at h
  · rw [arbitrate_busy _ hp] at h; exact absurd h hp

/-- An event of another block that changed nothing leaves a part at rest as it was. -/
theorem finish_rested {s : State} (h : s.rested) : s.finish = s := by
  unfold State.finish State.startLine
  rw [arbitrate_rested h.2, startLine_rested h.1]

/-- An event of the Link Port that changed nothing leaves a part at rest as it was. -/
theorem finishLink_rested {s : State} (h : s.rested) : s.finishLink = s := by
  unfold State.finishLink
  rw [settle_rested h.1, arbitrate_rested h.2]

/-- Time alone does not disturb a part at rest. -/
theorem elapse_rested {s : State} (n : Nat) (h : s.rested) : (s.elapse n).rested := h

/-! ## The legs of the bridge -/

/-- Driving a leg never turns both switches on, whatever stood before. -/
theorem Leg.drive_exclusive (l : Leg) (k : LegClock) (role : LegRole) : (l.drive k role).exclusive := by
  unfold Leg.drive Leg.exclusive
  cases role <;> simp

/-- A leg driven off has both switches off, and no turn-on waits. -/
theorem Leg.drive_off (l : Leg) (k : LegClock) :
    (l.drive k .off).high = 0 ∧ (l.drive k .off).low = false ∧ (l.drive k .off).heldHigh = 0 ∧
    (l.drive k .off).heldLow = false := ⟨rfl, rfl, rfl, rfl⟩

/-- A leg driven to switch its high side does what R35 says of it. -/
theorem Leg.drive_switching (l : Leg) (k : LegClock) (n : Nat) :
    l.switchesTo (l.drive k (.switching n)) k.now k.dead n := by
  obtain ⟨high, low, highOff, lowOff, heldHigh, heldLow⟩ := l
  simp only [Leg.switchesTo, Leg.drive, Leg.lowEnd, LegClock.blocks]
  cases low <;> cases lowOff <;> simp <;> grind

/-- A leg driven to hold its low side on does what R35 says of it. -/
theorem Leg.drive_lowOn (l : Leg) (k : LegClock) :
    l.holdsLow (l.drive k .lowOn) k.now k.dead k.carrierFrom k.carrierTicks := by
  obtain ⟨high, low, highOff, lowOff, heldHigh, heldLow⟩ := l
  simp only [Leg.holdsLow, Leg.drive, Leg.highEnd, LegClock.blocks, LegClock.windowOpen, ceilDiv]
  by_cases h : high = 0
  · cases low <;> cases highOff <;> simp [h] <;> grind
  · by_cases w : (k.now - k.carrierFrom) * 256 < high * k.carrierTicks <;> cases low <;> simp [h, w] <;> grind

/-- The end of a dead time never turns both switches of a leg on. -/
theorem Leg.release_exclusive {l : Leg} (k : LegClock) (h : l.exclusive) : (l.release k).exclusive := by
  unfold Leg.release Leg.exclusive at *
  simp only
  grind

/-! ## The Control Record -/

/-- A changed Control Record holds the figure of R77. -/
theorem withControl_effective (s : State) (c : Control) : (s.withControl c).effectiveR77 := rfl

/-- The capped figure never exceeds the supply cap. -/
theorem capped_le_cap {c : Control} {n : Nat} (h : c.supplyCap = some n) : c.capped ≤ n := by
  unfold Control.capped; simp [h, Nat.min_le_right]

/-- The effective throttle never exceeds the supply cap. -/
theorem effective_le_cap {c : Control} {n : Nat} (h : c.supplyCap = some n) : c.effectiveThrottle ≤ n := by
  unfold Control.effectiveThrottle
  split
  · exact Nat.zero_le n
  · exact capped_le_cap h

/-! ## The bridge after a trip -/

/-- A bridge that has tripped in this period is asked for no DRIVE before the expiry (R37). -/
theorem wantedBridge_drive {s : State} (h : s.wantedBridge = .drive) : s.bridge.tripHere = false := by
  simp only [State.wantedBridge] at h
  split at h
  · cases h
  · rename_i k
    cases e : s.bridge.tripHere <;> simp_all

/-- What a change of traction state or supply state does to the bridge: nothing, or it enters the state R26 asks for. -/
theorem followBridge_cases (s : State) :
    s.followBridge = s ∨
    (s.bridge.state ≠ .off ∧ s.bridge.state ≠ .gap ∧ s.bridge.state ≠ s.wantedBridge ∧
      s.followBridge = s.enterBridge s.wantedBridge) := by
  simp only [State.followBridge]
  split <;> try exact .inl rfl
  split
  · exact .inl rfl
  · rename_i h _ _ k
    refine .inr ⟨?_, ?_, fun e => k e.symm, rfl⟩ <;> simp_all

/-- DRIVE begins at a hand-over alone: after such a change a bridge drives only if it drove before, so one that has tripped
in this period is not made to drive (R31, R37). -/
theorem followBridge_drive {s : State} (h : s.followBridge.bridge.state = .drive) : s.bridge.state = .drive := by
  simp only [State.followBridge] at h
  split at h <;> try assumption
  split at h
  · assumption
  · rename_i k _
    exact (k (h : s.wantedBridge = .drive)).elim

/-- Nor does the hand-over make such a bridge drive (R37): with gap_us 0 a trip before it lasts to the expiry. -/
theorem handOver_tripped {s : State} (h : s.bridge.tripHere = true) : s.handOver.bridge.state ≠ .drive := by
  intro d
  have := wantedBridge_drive (s := s) d
  simp_all

/-! ## The accumulation of the motor current -/

/-- Where the accumulation follows the bridge, no DRIVE time is lost or gained. -/
theorem Accumulation.pending_follow (a : Accumulation) (drives : Bool) (now : Nat) :
    (a.follow drives now).pending now = a.pending now := by
  unfold Accumulation.follow Accumulation.pending
  cases h : a.since <;> cases drives <;> simp [h]

/-- The accumulation runs exactly while the bridge drives. -/
theorem Accumulation.follow_since (a : Accumulation) (drives : Bool) (now : Nat) :
    (a.follow drives now).since.isSome = drives := by
  unfold Accumulation.follow
  cases h : a.since <;> cases drives <;> simp [h]

/-- A reading is summed over the whole DRIVE time not yet read, and leaves none. -/
theorem Accumulation.read_sum (a : Accumulation) (n now : Nat) :
    (a.read n now).charge = a.charge + n * a.pending now ∧ (a.read n now).time = a.time + a.pending now ∧
    (a.read n now).pending now = 0 := by
  refine ⟨rfl, rfl, ?_⟩
  unfold Accumulation.pending Accumulation.read
  cases h : a.since <;> simp

/-- The mean is a figure of R30: 0 without DRIVE time, never above 12,000. -/
theorem Accumulation.mean_le (a : Accumulation) : a.mean ≤ 12000 ∧ (a.time = 0 → a.mean = 0) := by
  unfold Accumulation.mean
  split
  · simp
  · rename_i h
    exact ⟨Nat.min_le_left _ _, fun z => absurd z h⟩

/-! ## Voices -/

/-- A voice record replaced is read back; every other voice is as before. -/
theorem setVoice_get (s : State) (i j : Fin 8) (v : Voice) :
    (s.setVoice i v).sound.voices[j] = if j = i then v else s.sound.voices[j] := by
  unfold State.setVoice
  simp only [Fin.getElem_fin, Vector.getElem_set]
  by_cases h : i = j
  · simp [h]
  · have : (i : Nat) ≠ (j : Nat) := fun e => h (Fin.ext e)
    simp [this, Ne.symm h]

/-- A voice that becomes FREE holds the free record; every other voice plays on. -/
theorem freeVoice_get (s : State) (i j : Fin 8) :
    (s.freeVoice i).sound.voices[j] = if j = i then {} else s.sound.voices[j] := by
  have h := setVoice_get s i j {}
  unfold State.freeVoice State.emptyBuffers State.setBuffers
  exact h

/-- A started voice holds its record, evaluated, in PLAYING; every other voice plays on. -/
theorem startVoice_get (s : State) (i j : Fin 8) (v : Voice) :
    (s.startVoice i v).sound.voices[j] =
      if j = i then ({ v with state := .playing, multiplier := 256, waiting := true }).evaluated s.motion
      else s.sound.voices[j] := by
  have h := setVoice_get s i j (({ v with state := .playing, multiplier := 256, waiting := true }).evaluated s.motion)
  unfold State.startVoice State.askFirst State.setBuffers
  exact h

/-- A started voice stands at the end of the start list, once where it stood once. -/
theorem startVoice_order (s : State) (i : Fin 8) (v : Voice) :
    (s.startVoice i v).sound.order = s.sound.order.erase i ++ [i] := rfl

/-- A voice that becomes FREE leaves the start list. -/
theorem freeVoice_order (s : State) (i : Fin 8) : (s.freeVoice i).sound.order = s.sound.order.erase i := rfl

/-- CUE_DONE goes out for a cue of origin HOST alone. -/
theorem notifyDone_radio {s : State} {v : Voice} (i : Fin 8) (cause : CueEnd) (h : v.host = false) :
    s.notifyDone v i cause = s := by
  unfold State.notifyDone; simp [h]

/-- The last notice is one that is raised while the queue has room (R169). -/
theorem lastNotice_notify {s : State} (n : Notice) (h : s.link.notices.length < 16) : (s.notify n).lastNotice n := by
  have e : s.notify n = { s with link := { s.link with notices := s.link.notices ++ [s.noticed n] } } := by
    simp [State.notify, noticeCapacity, h, State.noticed]
  simp [State.lastNotice, State.outgoing, e, State.noticed, State.timestamp, State.ms]

/-- CUE_DONE carries the cue, the voice and the cause. -/
theorem notifyDone_host {s : State} {v : Voice} {n : Nat} (i : Fin 8) (cause : CueEnd) (h : v.host = true)
    (k : v.content = some (.cue n)) : s.notifyDone v i cause = s.notify (.cueDone n i.val cause) := by
  unfold State.notifyDone; simp [h, k]

/-- Silence frees every voice and empties every buffer. -/
theorem silence_get (s : State) (i : Fin 8) :
    s.silence.sound.voices[i] = {} ∧ s.silence.store.buffers[i] = {} := by
  simp [State.silence]

end Sys2Proof.Machine
end

