-- ==== Sys2Proof/Laws/PerInstr.lean ====
section
/-! SUPPORT. Statements made for every command of the syntax, one lemma for each constructor. -/

namespace Sys2Proof.Laws

/-- A well-formed command that is a request carries a request that a frame can carry (R167, R177). -/
def FitsFrame.Statement (i : Instr) : Prop :=
  ∀ t, Machine.requestOf i = some t → i.wellFormed = true → t.request.wellFormed = true

theorem FitsFrame.powerOn (after : Nat) : FitsFrame.Statement (.powerOn after) := by
  intro t h w
  cases h

theorem FitsFrame.brownout (after lowMv endMv : Nat) : FitsFrame.Statement (.brownout after lowMv endMv) := by
  intro t h w
  cases h

theorem FitsFrame.pinReset (after : Nat) : FitsFrame.Statement (.pinReset after) := by
  intro t h w
  cases h

theorem FitsFrame.restartTakesEffect (after : Nat) : FitsFrame.Statement (.restartTakesEffect after) := by
  intro t h w
  cases h

theorem FitsFrame.linkByte (after : Nat) (byte : Byte) (stopBit : Bool) : FitsFrame.Statement (.linkByte after byte stopBit) := by
  intro t h w
  cases h

theorem FitsFrame.linkGapExpiry (after : Nat) : FitsFrame.Statement (.linkGapExpiry after) := by
  intro t h w
  cases h

theorem FitsFrame.transmitFrameEnd (after : Nat) : FitsFrame.Statement (.transmitFrameEnd after) := by
  intro t h w
  cases h

theorem FitsFrame.hostLeaseExpiry (after : Nat) : FitsFrame.Statement (.hostLeaseExpiry after) := by
  intro t h w
  cases h

theorem FitsFrame.ping (after : Nat) (tag : Byte) : FitsFrame.Statement (.ping after tag) := by
  intro t h w
  obtain rfl := Option.some.inj h
  exact rfl

theorem FitsFrame.setModeRun (after : Nat) (tag : Byte) : FitsFrame.Statement (.setModeRun after tag) := by
  intro t h w
  obtain rfl := Option.some.inj h
  exact rfl

theorem FitsFrame.setModeConfig (after : Nat) (tag code : Byte) : FitsFrame.Statement (.setModeConfig after tag code) := by
  intro t h w
  obtain rfl := Option.some.inj h
  exact rfl

theorem FitsFrame.readTable (after : Nat) (tag table index : Byte) : FitsFrame.Statement (.readTable after tag table index) := by
  intro t h w
  obtain rfl := Option.some.inj h
  exact rfl

theorem FitsFrame.writeTable (after : Nat) (tag table index : Byte) (entry : List Byte) : FitsFrame.Statement (.writeTable after tag table index entry) := by
  intro t h w
  obtain rfl := Option.some.inj h
  exact w

theorem FitsFrame.drive (after : Nat) (tag : Byte) (throttle : BitVec 16) (direction : Byte) : FitsFrame.Statement (.drive after tag throttle direction) := by
  intro t h w
  obtain rfl := Option.some.inj h
  exact rfl

theorem FitsFrame.releaseDrive (after : Nat) (tag : Byte) : FitsFrame.Statement (.releaseDrive after tag) := by
  intro t h w
  obtain rfl := Option.some.inj h
  exact rfl

theorem FitsFrame.stop (after : Nat) (tag : Byte) : FitsFrame.Statement (.stop after tag) := by
  intro t h w
  obtain rfl := Option.some.inj h
  exact rfl

theorem FitsFrame.setFunction (after : Nat) (tag function state : Byte) : FitsFrame.Statement (.setFunction after tag function state) := by
  intro t h w
  obtain rfl := Option.some.inj h
  exact rfl

theorem FitsFrame.playCue (after : Nat) (tag cue : Byte) : FitsFrame.Statement (.playCue after tag cue) := by
  intro t h w
  obtain rfl := Option.some.inj h
  exact rfl

theorem FitsFrame.haltCue (after : Nat) (tag cue : Byte) : FitsFrame.Statement (.haltCue after tag cue) := by
  intro t h w
  obtain rfl := Option.some.inj h
  exact rfl

theorem FitsFrame.storeErase (after : Nat) (tag : Byte) (sector : BitVec 16) : FitsFrame.Statement (.storeErase after tag sector) := by
  intro t h w
  obtain rfl := Option.some.inj h
  exact rfl

theorem FitsFrame.storeWrite (after : Nat) (tag : Byte) (address : BitVec 24) (data : List Byte) : FitsFrame.Statement (.storeWrite after tag address data) := by
  intro t h w
  obtain rfl := Option.some.inj h
  exact w

theorem FitsFrame.storeRead (after : Nat) (tag : Byte) (address : BitVec 24) (count : Byte) : FitsFrame.Statement (.storeRead after tag address count) := by
  intro t h w
  obtain rfl := Option.some.inj h
  exact rfl

theorem FitsFrame.readStatus (after : Nat) (tag : Byte) : FitsFrame.Statement (.readStatus after tag) := by
  intro t h w
  obtain rfl := Option.some.inj h
  exact rfl

theorem FitsFrame.readCounters (after : Nat) (tag group clear : Byte) : FitsFrame.Statement (.readCounters after tag group clear) := by
  intro t h w
  obtain rfl := Option.some.inj h
  exact rfl

theorem FitsFrame.clearFaultTraction (after : Nat) (tag : Byte) : FitsFrame.Statement (.clearFaultTraction after tag) := by
  intro t h w
  obtain rfl := Option.some.inj h
  exact rfl

theorem FitsFrame.clearFaultSmoke (after : Nat) (tag : Byte) : FitsFrame.Statement (.clearFaultSmoke after tag) := by
  intro t h w
  obtain rfl := Option.some.inj h
  exact rfl

theorem FitsFrame.restart (after : Nat) (tag : Byte) : FitsFrame.Statement (.restart after tag) := by
  intro t h w
  obtain rfl := Option.some.inj h
  exact rfl

theorem FitsFrame.radioByte (after : Nat) (byte : Byte) (stopBit : Bool) : FitsFrame.Statement (.radioByte after byte stopBit) := by
  intro t h w
  cases h

theorem FitsFrame.radioGapExpiry (after : Nat) : FitsFrame.Statement (.radioGapExpiry after) := by
  intro t h w
  cases h

theorem FitsFrame.duplicateEntryFreed (after : Nat) (slot : Fin 8) : FitsFrame.Statement (.duplicateEntryFreed after slot) := by
  intro t h w
  cases h

theorem FitsFrame.interpretationComplete (after : Nat) : FitsFrame.Statement (.interpretationComplete after) := by
  intro t h w
  cases h

theorem FitsFrame.ownerLeaseExpiry (after : Nat) : FitsFrame.Statement (.ownerLeaseExpiry after) := by
  intro t h w
  cases h

theorem FitsFrame.dwellExpiry (after : Nat) : FitsFrame.Statement (.dwellExpiry after) := by
  intro t h w
  cases h

theorem FitsFrame.beaconRearm (after : Nat) (entry : Fin 16) : FitsFrame.Statement (.beaconRearm after entry) := by
  intro t h w
  cases h

theorem FitsFrame.tractionPeriodExpiry (after meanMicroamps : Nat) : FitsFrame.Statement (.tractionPeriodExpiry after meanMicroamps) := by
  intro t h w
  cases h

theorem FitsFrame.measurementComplete (after : Nat) (terminalMv : Int) : FitsFrame.Statement (.measurementComplete after terminalMv) := by
  intro t h w
  cases h

theorem FitsFrame.shortTrip (after currentMa : Nat) : FitsFrame.Statement (.shortTrip after currentMa) := by
  intro t h w
  cases h

theorem FitsFrame.ditherGroupStart (after : Drawn) : FitsFrame.Statement (.ditherGroupStart after) := by
  intro t h w
  cases h

theorem FitsFrame.axleEdge (after : Nat) : FitsFrame.Statement (.axleEdge after) := by
  intro t h w
  cases h

theorem FitsFrame.captureTimerSaturation (after : Nat) : FitsFrame.Statement (.captureTimerSaturation after) := by
  intro t h w
  cases h

theorem FitsFrame.chuffTimerExpiry (after : Nat) : FitsFrame.Statement (.chuffTimerExpiry after) := by
  intro t h w
  cases h

theorem FitsFrame.revolutionTimerExpiry (after : Nat) : FitsFrame.Statement (.revolutionTimerExpiry after) := by
  intro t h w
  cases h

theorem FitsFrame.sensorWatchExpiry (after : Nat) : FitsFrame.Statement (.sensorWatchExpiry after) := by
  intro t h w
  cases h

theorem FitsFrame.outputSample (after : Nat) : FitsFrame.Statement (.outputSample after) := by
  intro t h w
  cases h

theorem FitsFrame.lineReadComplete (after : Nat) : FitsFrame.Statement (.lineReadComplete after) := by
  intro t h w
  cases h

theorem FitsFrame.storeStatusPoll (after : Nat) (ready : Bool) : FitsFrame.Statement (.storeStatusPoll after ready) := by
  intro t h w
  cases h

theorem FitsFrame.storeReadComplete (after : Nat) : FitsFrame.Statement (.storeReadComplete after) := by
  intro t h w
  cases h

theorem FitsFrame.waitingStatusPoll (after : Nat) (ready : Bool) : FitsFrame.Statement (.waitingStatusPoll after ready) := by
  intro t h w
  cases h

theorem FitsFrame.temperatureSample (after : Nat) (milliCelsius : Int) : FitsFrame.Statement (.temperatureSample after milliCelsius) := by
  intro t h w
  cases h

theorem FitsFrame.fanBurstExpiry (after : Nat) : FitsFrame.Statement (.fanBurstExpiry after) := by
  intro t h w
  cases h

theorem FitsFrame.lightUpdate (after : Nat) : FitsFrame.Statement (.lightUpdate after) := by
  intro t h w
  cases h

theorem FitsFrame.strobePhaseExpiry (after : Nat) : FitsFrame.Statement (.strobePhaseExpiry after) := by
  intro t h w
  cases h

theorem FitsFrame.supplySample (after : Nat) (trackMv : Int) (railMv currentMicroamps : Nat) : FitsFrame.Statement (.supplySample after trackMv railMv currentMicroamps) := by
  intro t h w
  cases h

theorem FitsFrame.carrierPeriodStart (after : Drawn) : FitsFrame.Statement (.carrierPeriodStart after) := by
  intro t h w
  cases h

theorem FitsFrame.deadTimeElapsed (after : Nat) : FitsFrame.Statement (.deadTimeElapsed after) := by
  intro t h w
  cases h

end Sys2Proof.Laws
end

