-- ==== Sys2Proof/Tests/Slice0.lean ====
section
/-! SUPPORT. Tests of the model against the worked cases of the spec, and for every statement that has hypotheses a
witness that meets them. Each expected value comes from the spec's text or tables. -/

namespace Sys2Proof.Tests

open Sys2Proof Sys2Proof.Machine

set_option Elab.async false

/-! ## States to test on -/

/-- A quiet part in RUN, 10 ms after its reset, its flash port idle. -/
def calm : State := { State.reset with now := 20000, mode := .run, link := {}, store := { port := .idle } }

/-- The same part in CONFIG. -/
def still : State := { calm with mode := .config }

/-- The state after a command, where it answers one. -/
def after (c : Instr) (s : State) : State :=
  match exec c s with
  | .next t => t
  | .fault _ => s
  | .refused _ => s

/-- The state after commands taken one after another. -/
def afterAll : List Instr → State → State
  | [], s => s
  | c :: cs, s => afterAll cs (after c s)

/-- The result of the reply on the line. -/
def lineResult (s : State) : Option Result :=
  match s.link.onLine with
  | some (.reply r) => some r.result
  | some (.notice _) => none
  | none => none

/-! ## Well-formedness and table words -/

/-- An entry that no frame can carry is ill-formed (R167, R177). -/
theorem test_ill_formed_write_table :
    (Instr.writeTable 0 0 0 0 (List.replicate 247 0#8)).wellFormed = false ∧
    (Instr.writeTable 0 0 0 0 (List.replicate 246 0#8)).wellFormed = true := by decide +kernel

/-- Data that no frame can carry are ill-formed (R167, R177). -/
theorem test_ill_formed_store_write :
    (Instr.storeWrite 0 0 0 (List.replicate 246 0#8)).wellFormed = false ∧
    (Instr.storeWrite 0 0 0 (List.replicate 245 0#8)).wellFormed = true := by decide +kernel

/-- SET_MODE_CONFIG with the code of RUN is ill-formed (R172). -/
theorem test_ill_formed_set_mode :
    (Instr.setModeConfig 0 0 1#8).wellFormed = false ∧ (Instr.setModeConfig 0 0 2#8).wellFormed = true := by decide

/-- A brownout that does not fall below 5.0 V, or ends below 5.5 V, is ill-formed (R164). -/
theorem test_ill_formed_brownout :
    (Instr.brownout 0 5000 5500).wellFormed = false ∧ (Instr.brownout 0 4999 5499).wellFormed = false ∧
    (Instr.brownout 0 4999 5500).wellFormed = true := by decide

/-- A request of a frame carries no more than the frame (R167). -/
theorem test_ill_formed_request :
    (Request.writeTable 0 0 (List.replicate 247 0#8)).wellFormed = false ∧
    (Request.storeWrite 0 (List.replicate 246 0#8)).wellFormed = false := by decide +kernel

/-- No word spells a command: the table gives no bits. -/
theorem test_no_word_spells_a_command : decodeTableWord 8 0 = none ∧ State.reset.withFetchWord 8 0 = State.reset :=
  ⟨rfl, rfl⟩

/-! ## Resets and the link -/

/-- After power-on the STARTED notice is on the line and the port waits for the flash (R131, R175). -/
theorem test_power_on :
    (after (.powerOn 7) calm).link.onLine = some (.notice { time := 0, notice := .started .powerOn }) ∧
    (after (.powerOn 7) calm).store.port = .waiting := by decide +kernel

/-- The values of a brownout that is none: nothing happens (R164). -/
theorem test_brownout_not_low : (after (.brownout 7 5000 6000) calm).mode = .run ∧
    (after (.brownout 7 4999 5500) calm).cause = .brownout := by decide +kernel

/-- A pin reset leaves CONFIG (R175). -/
theorem test_pin_reset : (after (.pinReset 7) calm).mode = .config := by decide +kernel

/-- A PING frame, byte by byte: 7E 02 01 tag check (R177, R179), answered with the identity (R171). -/
theorem test_ping_frame :
    requestFrame 0x0A#8 .ping = [0x7E#8, 0x02#8, 0x01#8, 0x0A#8, crc8 [0x02#8, 0x01#8, 0x0A#8]] ∧
    lineResult (afterAll (lineBytes 3 (requestFrame 0x0A#8 .ping)) calm) = some .ok := by decide +kernel

/-- The check code of R167 over one byte: 0x01 gives the polynomial. -/
theorem test_crc8 : crc8 [0x01#8] = 0x07#8 := by decide +kernel

/-- A byte without its stop bit abandons a frame (R167). -/
theorem test_link_framing :
    (afterAll [.linkByte 0 0x7E#8 true, .linkByte 0 2#8 false] calm).counters.link.framing = 1 := by decide +kernel

/-- The receiver's gap of 5 ms (R167). -/
theorem test_link_gap :
    (afterAll [.linkByte 0 0x7E#8 true, .linkGapExpiry 9999] calm).counters.link.framing = 0 ∧
    (afterAll [.linkByte 0 0x7E#8 true, .linkGapExpiry 10000] calm).counters.link.framing = 1 := by decide +kernel

/-- Three requests at once (11.2): READ_STATUS 10, PING 11 and PING 12 find their places. -/
theorem test_three_requests :
    let s := afterAll [.readStatus 0 10, .ping 0 11, .ping 0 12]
      { calm with link := { onLine := some (.notice { time := 0, notice := .mode .run }) } }
    s.link.inService.map (fun v => v.tag) = some 11 ∧ s.link.waiting.map (fun w => w.tag) = some 12 ∧
    s.link.slot.map (fun r => r.tag) = some 10 := by decide +kernel

/-- The line free again, each of the three moves up one place (11.2). -/
theorem test_three_requests_move :
    let s := afterAll [.readStatus 0 10, .ping 0 11, .ping 0 12, .transmitFrameEnd 0]
      { calm with link := { onLine := some (.notice { time := 0, notice := .mode .run }) } }
    s.link.inService.map (fun v => v.tag) = some 12 ∧ s.link.waiting = none ∧
    s.link.slot.map (fun r => r.tag) = some 11 := by decide +kernel

/-- RESTART is answered, and takes effect when its reply has left the line, keeping the tables (R175). -/
theorem test_restart :
    lineResult (after (.restart 0 1) calm) = some .ok ∧
    (afterAll [.writeTable 0 1 12 0 [9#8], .transmitFrameEnd 0, .restart 0 2, .restartTakesEffect 0] calm).tables.masterVolume
      = 9 ∧
    (afterAll [.restart 0 2, .restartTakesEffect 0] calm).cause = .restart := by decide +kernel

/-! ## Requests -/

/-- SET_MODE CONFIG with a demand code above 0 is refused (R172). -/
theorem test_set_mode_moving :
    lineResult (after (.setModeConfig 0 1 0) { calm with motion := { demand := 256 } }) = some .moving ∧
    lineResult (after (.setModeConfig 0 1 7) { calm with motion := { demand := 255 } }) = some .okClamped := by
  decide +kernel

/-- Entry to RUN starts the traction period of 4 ms (R27, R172). -/
theorem test_set_mode_run :
    (after (.setModeRun 5 1) still).bridge.period = some { since := 20005, ticks := 8000 } := by decide +kernel

/-- A table past its last entry is NO_ENTRY, MIXER has one (R133, R171). -/
theorem test_read_table :
    lineResult (after (.readTable 0 1 12 1) calm) = some .noEntry ∧
    lineResult (after (.readTable 0 1 12 0) calm) = some .ok := by decide +kernel

/-- A field outside its range is clamped and answered OK_CLAMPED (R165, R171): ride threshold 79 becomes 80. -/
theorem test_write_table_clamps :
    let s := after (.writeTable 0 1 11 0 [0, 79, 5, 220, 0, 70, 31, 64]) calm
    lineResult s = some .okClamped ∧ s.tables.supply.rideThreshold = 80 ∧ s.tables.supply.budget = 8000 := by
  decide +kernel

/-- DRIVE above 1023 is clamped (R85). -/
theorem test_drive_clamps :
    lineResult (after (.drive 0 1 2000 1) calm) = some .okClamped ∧
    (after (.drive 0 1 2000 1) calm).control.throttle = 1023 ∧
    (after (.drive 0 1 2000 1) calm).control.request = .rev := by decide +kernel

/-- RELEASE_DRIVE with the default loss action STOP leaves throttle 0 (R84, R85). -/
theorem test_release_drive :
    let s := after (.releaseDrive 0 1) { calm with control := { source := .host, throttle := 300, effective := 300 } }
    s.control.source = .none ∧ s.control.throttle = 0 ∧ s.control.effective = 0 := by decide +kernel

/-- The host lease of 1,000 ms runs out (R85). -/
theorem test_host_lease :
    (afterAll [.drive 0 1 300 0, .hostLeaseExpiry 2000000] calm).control.source = .none ∧
    (afterAll [.drive 0 1 300 0, .hostLeaseExpiry 1999999] calm).control.source = .host := by decide +kernel

/-- STOP brakes a running motor at once (R17, R86). -/
theorem test_stop :
    let s := after (.stop 0 1) { calm with motion := { state := .run, demand := 90000 } }
    s.motion.state = .estop ∧ s.motion.demand = 0 ∧ s.control.estop = true := by decide +kernel

/-- F1 on enables smoke; F32 does not exist (R88, R90). -/
theorem test_set_function :
    (after (.setFunction 0 1 1 1) calm).control.flags.smoke = true ∧
    lineResult (after (.setFunction 0 1 32 1) calm) = some .noEntry := by decide +kernel

/-- Cue 0 plays a short sample, cue 1 an empty one. -/
def tuned : State :=
  { calm with tables := { calm.tables with
      sample := calm.tables.sample.set 0 { start := 65544, length := 3000, loop := none },
      cue := (calm.tables.cue.set 2 { CueEntry.defaultFor 0 with priority := 6 }).set 3
        { CueEntry.defaultFor 0 with priority := 2 } } }

/-- The voices of the worked case of stealing (6.3): priorities 2, 3, 5, 3, 2 on voices 3 to 7. -/
def crowded : State :=
  let v (cue priority : Nat) : Voice :=
    { state := .playing, content := some (.cue cue), priority := priority,
      sample := { start := 0, length := 900, loop := none }, multiplier := 256 }
  { tuned with sound := { tuned.sound with
      voices := ((((tuned.sound.voices.set 3 (v 12 2)).set 4 (v 9 3)).set 5 (v 14 5)).set 6 (v 9 3)).set 7 (v 11 2),
      order := [6, 3, 7, 4, 5] } }

/-- Stealing (6.3): a cue of priority 6 takes voice 3, and the start list becomes 6, 7, 4, 5, 3. -/
theorem test_stealing :
    (after (.playCue 0 1 2) crowded).sound.order = [6, 7, 4, 5, 3] ∧
    (after (.playCue 0 1 2) crowded).sound.voices[(3 : Fin 8)].content = some (.cue 2) := by decide +kernel

/-- Then a cue of priority 2 finds nobody below it and is dropped (6.3). -/
theorem test_dropped :
    (afterAll [.playCue 0 1 2, .transmitFrameEnd 0, .playCue 0 1 3] crowded).counters.sound.cueDropped = 1 := by
  decide +kernel

/-- A start asks for the line that holds the first position: 65,536 for a sample at 65,544 (7.2). -/
theorem test_first_line :
    (after (.playCue 0 1 0) tuned).store.port = .line 3 .first 65536 20000 := by decide +kernel

/-- The line comes 20 µs later, the voice plays, and the next line is fetched (7.2). -/
theorem test_line_read :
    let s := afterAll [.playCue 0 1 0, .lineReadComplete 40] tuned
    s.sound.voices[(3 : Fin 8)].waiting = false ∧ s.store.port = .line 3 .second 65568 20040 := by decide +kernel

/-- HALT_CUE frees a voice that has sounded nothing yet (R105, R106). -/
theorem test_halt_cue :
    let s := afterAll [.playCue 0 1 0, .transmitFrameEnd 0, .haltCue 0 2 0] tuned
    s.sound.voices[(3 : Fin 8)].state = .free := by decide +kernel

/-- Sector 4096 does not exist (R128); an erase of a sector that no voice plays begins at once (R127). -/
theorem test_store_erase :
    lineResult (after (.storeErase 0 1 4096) calm) = some .noEntry ∧
    (after (.storeErase 0 1 200) calm).store.port = .store := by decide +kernel

/-- A write over a page's end is BAD_LENGTH (R129). -/
theorem test_store_write :
    lineResult (after (.storeWrite 0 1 255 [1, 2]) calm) = some .badLength ∧
    lineResult (after (.storeWrite 0 1 254 [1, 2]) calm) = some .ok := by decide +kernel

/-- A page written twice holds the AND of old and new (R129). -/
theorem test_program_ands :
    Memory.read (afterAll [.storeWrite 0 1 16 [0xF0], .storeStatusPoll 9 true] { calm with flash := [(16, 0x3C)] }).flash 16
      = 0x30#8 := by decide +kernel

/-- A busy flash ends an erase with TIMEOUT after 2,000 ms, and the port waits (R129). -/
theorem test_store_timeout :
    (afterAll [.storeErase 0 1 200, .storeStatusPoll 3999999 false] calm).store.port = .store ∧
    (afterAll [.storeErase 0 1 200, .waitingStatusPoll 9 true] calm).store.port = .store := by decide +kernel

/-- A read of 128 bytes takes 50 µs (R130): 100 ticks of half a microsecond. -/
theorem test_store_read :
    let s := after (.storeRead 0 1 64 128) calm
    lineResult (after (.storeReadComplete 99) s) = none ∧ lineResult (after (.storeReadComplete 100) s) = some .ok := by
  decide +kernel

/-- The port leaves WAITING at the first ready (R131). -/
theorem test_waiting_poll : (after (.waitingStatusPoll 0 true) State.reset).store.port = .idle := by decide +kernel

/-- The status record has 39 bytes (R181) and READ_COUNTERS of group 5 does not exist (R173). -/
theorem test_status_and_counters :
    calm.statusRecord.length = 39 ∧ lineResult (after (.readCounters 0 1 5 0) calm) = some .noEntry ∧
    lineResult (after (.readStatus 0 1) calm) = some .ok := by decide +kernel

/-- CLEAR_FAULT with nothing latched is NOT_FAULTED (R174). -/
theorem test_clear_fault_none :
    lineResult (after (.clearFaultTraction 0 1) calm) = some .notFaulted ∧
    lineResult (after (.clearFaultSmoke 0 1) calm) = some .notFaulted := by decide +kernel

/-- A latched smoke fault is cleared whatever the temperature (R143). -/
theorem test_clear_smoke :
    (after (.clearFaultSmoke 0 1) { calm with smoke := { state := .fault, latch := some .dry } }).smoke.latch = none := by
  decide +kernel

/-! ## The radio line -/

/-- A burst of the worked cases of 4.2: THROTTLE with speed 1500 passes as 1023. -/
def throttleBurst : List Byte := burstBytes 1 101 3 1 (toBytes 2 1500 ++ [0]) 90

/-- The last row of the worked cases (4.2): the packet passes, its speed taken as 1023. -/
theorem test_burst_passes :
    (checkBurst 30 throttleBurst).toOption.map (fun p => p.body) = some (.throttle 1023 .fwd) := by decide +kernel

/-- THROTTLE with a body of 2 is BAD_BODY, a length byte of 20 is TRUNCATED (4.2). -/
theorem test_burst_failures :
    (match checkBurst 30 (burstBytes 1 5 3 1 [1, 2] 90) with
      | .error .badBody => true
      | _ => false) = true ∧
    (after (.radioByte 0 20 true) calm).counters.radio.truncated = 1 := by decide +kernel

/-- Ten bytes of a packet of twelve, then 1 ms of quiet, are TRUNCATED (4.2). -/
theorem test_radio_gap :
    (afterAll [.radioByte 0 12 true, .radioByte 0 1 true, .radioGapExpiry 2000] calm).counters.radio.truncated = 1 := by
  decide +kernel

/-- The full duplicate table gives its least recently heard slot to a new source (4.4). -/
theorem test_duplicate_replacement :
    let d (source heard : Nat) : Option DuplicateEntry := some { source := source, sequence := 9, heard := heard }
    let r : Radio := { duplicates := #v[d 101 10400, d 202 10050, d 3 10420, d 4 10430, d 5 10440, d 6 10450, d 7 10460, d 8 11100] }
    (r.judge 909 3 11200).1.duplicates[(1 : Fin 8)] = some { source := 909, sequence := 3, heard := 11200 } := by
  decide +kernel

/-- A source unheard for 2,000 ms leaves the duplicate table (R67). -/
theorem test_duplicate_freed :
    let d := calm.radio.duplicates.set 1 (some { source := 202, sequence := 9, heard := 1 })
    let s := { calm with radio := { calm.radio with duplicates := d } }
    (after (.duplicateEntryFreed 3981999 1) s).radio.duplicates[(1 : Fin 8)].isSome = true ∧
    (after (.duplicateEntryFreed 3982000 1) s).radio.duplicates[(1 : Fin 8)] = none := by decide +kernel

/-- A THROTTLE of a stranger is interpreted after 250 µs and selects it (R78, R82). -/
theorem test_interpretation :
    let s := afterAll (throttleBurst.map (fun b => .radioByte 170 b true)) calm
    (after (.interpretationComplete 499) s).control.owner = none ∧
    (after (.interpretationComplete 500) s).control.owner = some 101 ∧
    (after (.interpretationComplete 500) s).control.throttle = 1023 := by decide +kernel

/-- The owner's lease of 3,000 ms runs out (R83). -/
theorem test_owner_lease :
    let s := { calm with control := { source := .radio, owner := some 5, lease := some { since := 20000, ticks := 6000000 } } }
    (after (.ownerLeaseExpiry 5999999) s).control.owner = some 5 ∧
    (after (.ownerLeaseExpiry 6000000) s).control.owner = none := by decide +kernel

/-- A dwell gives back the resume throttle (R93). -/
theorem test_dwell :
    let q := StopSequence.dwell { since := 0, ticks := 20010 }
    let s := { calm with control := { source := .radio, owner := some 5, resume := 450, stopSeq := q } }
    (after (.dwellExpiry 10) s).control.throttle = 450 := by decide +kernel

/-- A beacon unheard for its re-arm time of 5,000 ms is armed (R91). -/
theorem test_beacon_rearm :
    let b := calm.control.beacons.set 2 { armed := false, unheard := some 20000 }
    let s := { calm with control := { calm.control with beacons := b } }
    (after (.beaconRearm 9999999 2) s).control.beacons[(2 : Fin 16)].armed = false ∧
    (after (.beaconRearm 10000000 2) s).control.beacons[(2 : Fin 16)].armed = true := by decide +kernel

/-! ## Motor, bridge and wheel -/

/-- The motor driven in closed loop, its measurement awaited at the end of the default gap of 300 µs. -/
def measured : State :=
  { calm with
    motion := { state := .run, demand := 256000, integral := 20000 },
    bridge := { state := .gap, period := some { since := 20000, ticks := 8000 }, awaiting := true, closedCurrent := 5600 },
    control := { source := .radio, owner := some 5, throttle := 500, effective := 500 } }

/-- A motor current of 5,600 mA above the limit of 5,000 takes the ceiling from 1023 to 959 (2.3). -/
theorem test_current_ceiling :
    (after (.measurementComplete 600 0) measured).motion.ceiling = 959 ∧
    (after (.measurementComplete 600 0) measured).counters.traction.overcurrentSteps = 1 := by decide +kernel

/-- The EMF code of 28 V is 4095, and the gap must have run (R28, R29). -/
theorem test_emf_code :
    (after (.measurementComplete 600 28000) measured).motion.emf = 4095 ∧
    (after (.measurementComplete 599 28000) measured).motion.emf = 0 := by decide +kernel

/-- The default curve gives 4·T up to throttle 960 and 4091 at 1023 (1.2). -/
theorem test_curve : curveTarget defaultCurve 500 = 2000 ∧ curveTarget defaultCurve 1023 = 4091 := by decide +kernel

/-- The gap turns every switch off (R25, R27). -/
theorem test_period_expiry :
    let s := after (.tractionPeriodExpiry 8000 3000000)
      { measured with bridge := { measured.bridge with state := .drive, accumulation := { since := some 20000 }, legA := { high := 128 }, legB := { low := true } } }
    s.bridge.state = .gap ∧ s.bridge.legB.low = false ∧ s.bridge.closedCurrent = 3000 := by decide +kernel

/-- The first trip of a run turns the bridge off; below short_trip nothing happens (R37, R38). -/
theorem test_short_trip :
    let s := { measured with bridge := { measured.bridge with state := .drive } }
    (after (.shortTrip 5 10000) s).bridge.state = .tripped ∧ (after (.shortTrip 5 9999) s).bridge.state = .drive := by
  decide +kernel

/-- Level 514 gives the step counts 129, 128, 129, 128 (2.4). -/
theorem test_dither :
    stepCount 514 0 = 129 ∧ stepCount 514 1 = 128 ∧ stepCount 514 2 = 129 ∧ stepCount 514 3 = 128 := by decide

/-- In the driving part a carrier period of 50 µs advances the group; after position 3 a new group starts (R33). -/
theorem test_carrier :
    let s := { measured with bridge := { measured.bridge with state := .drive, driving := true, carrierFrom := 20000, group := 3,
                                                              pendingLevel := 514 } }
    (after (.carrierPeriodStart ⟨100, 0⟩) s).bridge.group = 0 ∧ (after (.ditherGroupStart ⟨100, 0⟩) s).bridge.active = 514 ∧
    (after (.carrierPeriodStart ⟨99, 0⟩) s).bridge.group = 3 := by decide +kernel

/-- The motor driven 2 ms since its last reading, in the third carrier period of a group. -/
def drawing : State :=
  { measured with bridge := { measured.bridge with
      state := .drive, driving := true, carrierFrom := 23900, group := 2, active := 514,
      accumulation := { charge := 4000000000, time := 4000, since := some 24000 } },
                  now := 24000 }

/-- The accumulation holds the charge of every reading of the DRIVE time: 2 ms at 1 A and 2 ms at 3 A close as 2 A (R30). -/
theorem test_accumulation :
    (afterAll [.carrierPeriodStart ⟨4000, 3000000⟩, .tractionPeriodExpiry 0 0] drawing).bridge.closedCurrent = 2000 ∧
    (after (.tractionPeriodExpiry 4000 0) calm).bridge.closedCurrent = 0 := by decide +kernel

/-- A trip ends the accumulation early: the time after it does not count (R30, R37). -/
theorem test_trip_ends_accumulation :
    (afterAll [.shortTrip 4000 10000, .tractionPeriodExpiry 0 3000000] drawing).bridge.closedCurrent = 2000 ∧
    (after (.shortTrip 4000 10000) drawing).bridge.accumulation.since = none := by decide +kernel

/-- A held low side comes on one dead time (1 µs) after its high side went off (R35). -/
theorem test_dead_time :
    let s := { calm with bridge := { calm.bridge with legA := { highOff := some 20000, heldLow := true } } }
    (after (.deadTimeElapsed 1) s).bridge.legA.low = false ∧ (after (.deadTimeElapsed 2) s).bridge.legA.low = true := by
  decide +kernel

/-- A wheel at two edges a revolution, its second edge 125 ms after the first. -/
def rolling : State :=
  { calm with cadence := { calm.cadence with startAwaited := false, edges := 1, intervalSum := 12500, captureFrom := some 20000 } }

/-- 125 ms and 125 ms make a revolution of 2,500 tenths, four chuffs of 625 (3.2). -/
theorem test_axle_edge :
    let s := after (.axleEdge 250000) rolling
    s.cadence.revInterval = some 2500 ∧ s.cadence.chuffInterval = some 625 ∧ s.cadence.revCount = 1 ∧
    s.cadence.chuffsLeft = 3 := by decide +kernel

/-- An edge within the debounce time of 10 · 0.1 ms is not taken (R44). -/
theorem test_debounce : (after (.axleEdge 1999) rolling).cadence = rolling.cadence := by decide +kernel

/-- A capture timer at 65535 stops the wheel (R45). -/
theorem test_saturation :
    (after (.captureTimerSaturation 1310700) rolling).cadence.startAwaited = true ∧
    (after (.captureTimerSaturation 1310699) rolling).cadence.startAwaited = false := by decide +kernel

/-- A chuff timer expiry leaves one chuff fewer (R47). -/
theorem test_chuff_timer :
    (afterAll [.axleEdge 250000, .chuffTimerExpiry 125000] rolling).cadence.chuffsLeft = 2 := by decide +kernel

/-- A synthetic cadence of 2,500 tenths whose revolution timer has run. -/
def spinning : State :=
  { calm with cadence := { calm.cadence with inUse := .synthetic,
                                             revInterval := some 2500,
                                             revTimer := some { since := 0, ticks := 20000 } } }

/-- A synthetic revolution at EMF code 1600: 40,000 · 100 / 1600 = 2,500 (3.4), counted at its expiry. -/
theorem test_revolution_timer :
    syntheticInterval CadenceTable.defaults 1600 = some 2500 ∧
    (after (.revolutionTimerExpiry 9) spinning).cadence.revCount = 1 := by decide +kernel

/-- A sensor watched for 2,000 ms without an edge is at fault, and AUTO goes over to synthetic cadence (R52). -/
theorem test_sensor_watch :
    let s := { calm with motion := { emf := 1600 }, cadence := { calm.cadence with watch := some 20000 } }
    (after (.sensorWatchExpiry 4000000) s).cadence.inUse = .synthetic ∧
    (after (.sensorWatchExpiry 4000000) s).cadence.revInterval = some 2500 ∧
    (after (.sensorWatchExpiry 3999999) s).cadence.faultFlag = false := by decide +kernel

/-! ## Mixer, smoke, lamps, supply -/

/-- The worked mixes of 7.6: 768, −391, a saturation, and a clip that shedding prevents. -/
theorem test_mix :
    saturate (mixValue 17490 180 0) = 768 ∧ saturate (mixValue (-20000) 160 2) = -391 ∧ mixValue 129540 255 0 = 8064 ∧
    saturate (mixValue 40000 255 0) = 2047 ∧ saturate (mixValue 40000 255 2) = 1245 ∧
    mixValue (-261120) 255 0 = -16257 := by decide +kernel

/-- Four voices at 127 and gain 255 saturate and count CLIP (7.6). -/
theorem test_clip :
    let v : Voice := { state := .playing, content := some .chuff, sample := { start := 0, length := 99, loop := none }, applied := 255,
                       multiplier := 256 }
    let b : VoiceBuffers := { first := .full 0 [127#8], consuming := some .first }
    let s := { calm with
      tables := { calm.tables with masterVolume := 255 },
      sound := { calm.sound with voices := (((calm.sound.voices.set 1 v).set 2 v).set 3 v).set 4 v },
      store := { calm.store with buffers := (((calm.store.buffers.set 1 b).set 2 b).set 3 b).set 4 b } }
    (after (.outputSample 125) s).audio = 2047 ∧ (after (.outputSample 125) s).counters.sound.clip = 1 := by
  decide +kernel

/-- Smoke on, in WARMING: below 205 °C the heater is on; at 250 °C HOT latches (R139, R141). -/
theorem test_temperature :
    let s := { calm with control := { calm.control with flags := { smoke := true } }, smoke := { state := .warming } }
    (after (.temperatureSample 9 204999) s).smoke.heater = true ∧
    (after (.temperatureSample 9 205000) s).smoke.state = .ready ∧
    (after (.temperatureSample 9 250000) s).smoke.latch = some .hot := by decide +kernel

/-- At the end of a burst in READY the fan idles at 15 % (8.5). -/
theorem test_fan_burst :
    (after (.fanBurstExpiry 92000) { calm with smoke := { state := .ready, fan := 100, burst := some { since := 20000, ticks := 92000 } } }).smoke.fan
      = 15 := by decide +kernel

/-- The firebox draws of 9.2: 0xACE1 to 0x5670 to 0xAB38 to 0x559C, levels 146, 152, and 188 with FIRING. -/
theorem test_firebox :
    flickerStep 0xACE1#16 = 0x5670#16 ∧ flickerStep 0x5670#16 = 0xAB38#16 ∧ flickerStep 0xAB38#16 = 0x559C#16 ∧
    fireboxLevel 180 0x5670#16 = 146 ∧ fireboxLevel 180 0xAB38#16 = 152 ∧ fireboxLevel 255 0x559C#16 = 188 := by
  decide +kernel

/-- A headlamp through a reversal: one update takes 240 to 231 (9.3). -/
theorem test_headlamp :
    let s := { calm with
      motion := { direction := .rev },
      control := { calm.control with functions := calm.control.functions.set 0 { on := true } },
      light := { calm.light with lamps := calm.light.lamps.set 0 { output := 240, target := 240 } } }
    (after (.lightUpdate 9) s).light.lamps[(0 : Fin 8)].output = 231 ∧
    (after (.lightUpdate 9) s).light.lamps[(1 : Fin 8)].output = 9 := by decide +kernel

/-- The strobe is on for 60 ms, then off for 940 (R151, R154). -/
theorem test_strobe :
    (after (.strobePhaseExpiry 100000) calm).light.strobe = { since := 120000, ticks := 1880000 } := by decide +kernel

/-- Two samples below the ride threshold begin a ride-through, one does not (R158). -/
theorem test_ride_through :
    (after (.supplySample 2000 11900 18000 500000) calm).supply.state = .normal ∧
    (afterAll [.supplySample 2000 11900 18000 500000, .supplySample 2000 (-11900) 18000 500000] calm).supply.state
      = .rideThrough := by decide +kernel

/-- A step of the queue: an empty queue idles, a command is taken from the front. -/
theorem test_step :
    step calm = .next calm ∧
    step { calm with pending := [.ping 4 9, .stop 5 9] } =
      exec (.ping 4 9) { calm with pending := [.stop 5 9] } := ⟨rfl, rfl⟩

/-! ## Witnesses

For every statement that has hypotheses, a concrete state and operands that meet them, clause by clause. -/

/-- The OK reply of a RESTART on the line. -/
def leaving : State :=
  { calm with link := { onLine := some (.reply { kind := 0x11, tag := 1, result := .ok, content := [] }),
                        inService := some { tag := 1, request := .restart, stage := .restarting } } }

/-- The part with a link of its own. -/
def linked (l : Link) : State := { calm with link := l }

/-- The part with a Control Record of its own. -/
def steered (c : Control) : State := { calm with control := c }

/-- The part with a Motion Record of its own. -/
def moving (m : Motion) : State := { calm with motion := m }

/-- The part with a bridge of its own. -/
def bridged (b : Bridge) : State := { calm with bridge := b }

/-- The part with a Cadence Record of its own. -/
def wheeled (c : Cadence) : State := { calm with cadence := c }

/-- The part with a store port of its own. -/
def stored (t : Store) : State := { calm with store := t }

/-- The part with a radio of its own. -/
def tunedIn (r : Radio) : State := { calm with radio := r }

/-- The part with a Supply Record of its own. -/
def supplied (u : Supply) : State := { calm with supply := u }

/-- Smoke enabled in RUN, with a Smoke Record of its own. -/
def smoking (k : Smoke) : State := { steered { flags := { smoke := true } } with smoke := k }

/-- A write of two bytes at 16, begun on the port. -/
def writing : StoreOp := { kind := .write, address := 16, count := 2, data := [1, 2], begun := some 20000, clamped := false }

/-- A notice on the line. -/
def noticeOn : Tx := .notice { time := 0, notice := .mode .run }

/-- A PING being served, its reply built. -/
def pinging : Service := { tag := 4, request := .ping, stage := .built (replyTo 4 .ping .ok []) }

theorem witness_StepTakesFrontCommand : calm.pending = [] := rfl

theorem witness_EveryCommandAnswersAndKeepsQueue :
    (stored { port := .line 0 .first 16777184 20000 }).lineInFlash = true ∧ calm.lineInFlash = true := by
  and_intros <;> decide +kernel

theorem witness_ResetsReturnToResetValues :
    (4999 < 5000 ∧ 5500 ≤ 5500) ∧ ((5000 ≤ 5000 ∨ 6000 < 5500) ∧ calm.rested) ∧ (5000 ≤ 4999 ∨ 5499 < 5500) ∧
    leaving.link.restartReply = true ∧ calm.link.restartReply = false := by
  and_intros <;> decide +kernel

theorem witness_ResetKeepsFlashOutsideCutOff :
    let s := { leaving with store := { port := .store, op := some writing }, flash := [(16, 0x3C#8)] }
    Memory.wf s.flash = true ∧ 4999 < 5000 ∧ 5500 ≤ 5500 ∧ s.link.restartReply = true ∧
    (∀ c ∈ [Instr.powerOn 3, .pinReset 3, .brownout 3 4999 5500, .restartTakesEffect 3, .transmitFrameEnd 3],
      c = .powerOn 3 ∨ c = .pinReset 3 ∨ (c = .brownout 3 4999 5500 ∧ 4999 < 5000 ∧ 5500 ≤ 5500) ∨
        ((c = .restartTakesEffect 3 ∨ c = .transmitFrameEnd 3) ∧ s.link.restartReply = true)) ∧
    s.store.op = some writing ∧ writing.kind = .write ∧ writing.begun.isSome = true ∧
    (15 < writing.address ∨ writing.address + writing.count ≤ 15) ∧
    (18 < writing.address ∨ writing.address + writing.count ≤ 18) := by
  and_intros <;> decide +kernel

/-- A receiver collecting. -/
def collecting (bytes : List Byte) : State :=
  linked { receiver := .collecting bytes, gap := some { since := 20000, ticks := 10000 } }

theorem witness_LinkReceiverTakesBytes :
    (calm.rested ∧ calm.link.receiver = .hunting ∧ (true = false ∨ 0x7D#8 ≠ 0x7E#8)) ∧
    ((collecting []).rested ∧ (collecting []).link.receiver = .collecting []) ∧
    ((([] : List Byte) ++ [1#8]).headD 0#8).toNat < 2 ∧ 250 < ((([] : List Byte) ++ [251#8]).headD 0#8).toNat ∧
    (let all := ([] : List Byte) ++ [250#8]
     2 ≤ (all.headD 0#8).toNat ∧ (all.headD 0#8).toNat ≤ 250 ∧ all.length < (all.headD 0#8).toNat + 2) ∧
    (let all := [2#8, 1#8, 10#8] ++ [0#8]
     2 ≤ (all.headD 0#8).toNat ∧ (all.headD 0#8).toNat + 2 ≤ all.length ∧ crc8 [2#8, 1#8, 10#8] ≠ 0#8) ∧
    ((collecting [2]).link.gap = some { since := 20000, ticks := 10000 } ∧
      20000 + 10000 ≤ (collecting [2]).now + 10000 ∧ (collecting [2]).now + 9999 < 20000 + 10000) := by
  and_intros <;> decide +kernel

theorem witness_FrameBytesEqualRequestRow :
    requestRow 3 { tag := 9, request := .drive 500 1 } = some (.drive 3 9 500 1) ∧ (Instr.drive 3 9 500 1).wellFormed = true ∧
    calm.rested ∧ calm.link.receiver = .hunting ∧ calm.link.gap = none := by
  and_intros <;> decide +kernel

theorem witness_UnreadableFramesAreRefused :
    ((0x00#8 : Byte).toNat = 0 ∨ 0x11 < (0x00#8 : Byte).toNat) ∧ ((0x12#8 : Byte).toNat = 0 ∨ 0x11 < (0x12#8 : Byte).toNat) ∧
    ([1#8] : List Byte).length ≠ (requestPayload .ping).length ∧ (12#8 : Byte).toNat < 13 ∧ 13 ≤ (13#8 : Byte).toNat ∧
    ([1#8, 2#8] : List Byte).length < 3 ∧
    (calm.ready ∧ calm.link.receiver = .hunting ∧ calm.link.gap = none ∧ (List.replicate 248 0#8).length ≤ 248) ∧
    decodeRequest 0x01#8 [1#8] = .badLength 0x01#8 := by
  and_intros <;> decide +kernel

/-- A WRITE_TABLE of one byte is judged on its length where it names a table, and is NO_ENTRY where it names none (R170). -/
theorem test_write_table_of_one_byte :
    lineResult (afterAll (lineBytes 3 (frameBytes 0x04 9 [12])) calm) = some .badLength ∧
    lineResult (afterAll (lineBytes 3 (frameBytes 0x04 9 [13])) calm) = some .noEntry := by decide +kernel

theorem witness_RequestsEnterTheBuffer :
    requestOf (.ping 3 9) = some { tag := 9, request := .ping } ∧
    (linked { onLine := some noticeOn, slot := some (replyTo 1 .ping .ok []), inService := some pinging,
              waiting := some { tag := 5, request := .ping } }).rested ∧
    (linked { onLine := some noticeOn, slot := some (replyTo 1 .ping .ok []), inService := some pinging }).rested ∧
    (linked { onLine := some noticeOn, slot := some (replyTo 1 .ping .ok []) }).rested ∧
    (linked { onLine := some noticeOn }).rested ∧ calm.rested ∧ calm.link.onLine = none := by
  and_intros <;> decide +kernel

theorem witness_TransmitterTakesReplyBeforeNotices :
    (let s := linked { onLine := some noticeOn, slot := some (replyTo 1 .ping .ok []) }
     s.rested ∧ s.link.restartReply = false ∧ s.link.inService = none) ∧
    (let s := linked { onLine := some noticeOn, slot := some (replyTo 1 .ping .ok []), inService := some pinging }
     s.rested ∧ pinging.stage = .built (replyTo 4 .ping .ok []) ∧ pinging.request ≠ .restart ∧ s.link.waiting = none) ∧
    (let s := linked { onLine := some noticeOn, notices := [{ time := 1, notice := .estop .host }] }
     s.rested ∧ s.link.slot = none ∧ s.link.inService = none) ∧
    (let s := linked { onLine := some noticeOn }
     s.rested ∧ s.link.slot = none ∧ s.link.inService = none ∧ s.link.notices = []) ∧
    leaving.link.restartReply = true ∧
    (let s := linked { onLine := some noticeOn, slot := some (replyTo 1 .ping .ok []), inService := some pinging,
                       waiting := some { tag := 5, request := .ping } }
     s.rested ∧ s.link.restartReply = false ∧ pinging.stage = .built (replyTo 4 .ping .ok []) ∧ pinging.request ≠ .restart) ∧
    (let v : Service := { tag := 4, request := .storeRead 64 128, stage := .working }
     let s := linked { onLine := some noticeOn, inService := some v, slot := some (replyTo 1 .ping .ok []) }
     s.rested ∧ s.link.restartReply = false ∧ v.stage = .working) ∧
    (let v : Service := { tag := 4, request := .restart, stage := .restarting }
     let s := linked { onLine := some noticeOn, inService := some v, notices := [{ time := 1, notice := .estop .host }] }
     s.rested ∧ s.link.restartReply = false ∧ s.link.slot = none) ∧
    (let s := linked { onLine := some noticeOn, inService := some { tag := 4, request := .storeRead 64 128, stage := .working } }
     s.rested ∧ s.link.slot = none ∧ s.link.notices = []) := by
  and_intros <;> decide +kernel

/-- A RESTART whose reply waits behind an occupied slot. -/
def restartBehind : State :=
  linked { onLine := some noticeOn, slot := some (replyTo 1 .ping .ok []),
           inService := some { tag := 4, request := .restart, stage := .built (replyTo 4 .restart .ok []) } }

theorem witness_TransmitterTakesReplyBeforeNotices_restart :
    restartBehind.rested ∧ restartBehind.link.restartReply = false ∧
    restartBehind.link.slot = some (replyTo 1 .ping .ok []) := by
  and_intros <;> decide +kernel

/-- A RESTART is served until its own reply has left, and the part restarts then (R175, assumptions 12 and 13). -/
theorem test_restart_waits_for_its_reply :
    let t := after (.transmitFrameEnd 0) restartBehind
    t.link.slot = some (replyTo 4 .restart .ok []) ∧ t.link.inService.isSome = true ∧
    (after (.transmitFrameEnd 0) t).link.restartReply = true := by decide +kernel

theorem witness_PingReadTableAndRestartAreAnswered :
    calm.ready ∧ validEntry (12#8 : Byte).toNat (0#8 : Byte).toNat = true ∧ validEntry (5#8 : Byte).toNat (127#8 : Byte).toNat = true ∧
    validEntry (5#8 : Byte).toNat (128#8 : Byte).toNat = false := by
  and_intros <;> decide +kernel

theorem witness_SetModeRunEntersRun : (still.ready ∧ still.mode = .config) ∧ calm.ready ∧ calm.mode = .run := by
  and_intros <;> decide +kernel

theorem witness_SetModeConfigEntersConfig :
    (calm.ready ∧ 2#8 ≠ 1#8 ∧ calm.mode = .run ∧ (moving { demand := 255 }).motion.demandCode = 0) ∧
    (0 < (moving { demand := 256 }).motion.demandCode ∧ (moving { demand := 256 }).ready) ∧ still.ready := by
  and_intros <;> decide +kernel

/-- A CADENCE entry with another sensor mode than the default. -/
def otherCadence : List Byte := { CadenceTable.defaults with sensorMode := .sensor }.encode

/-- A TRACTION entry of CLOSED regulation without a gap. -/
def conflicting : List Byte := { TractionTable.defaults with gapUs := 0 }.encode

theorem witness_WriteTableRefusals :
    calm.ready ∧ (entryLength (12#8 : Byte).toNat = some 1 ∧ ([] : List Byte).length ≠ 1) ∧
    (entryLength (13#8 : Byte).toNat = none ∧ validEntry (13#8 : Byte).toNat 0 = false) ∧
    (entryLength (1#8 : Byte).toNat = some otherCadence.length ∧ validEntry (1#8 : Byte).toNat 0 = true ∧ calm.mode = .run ∧
      calm.tables.configOnlyDiffers 1 otherCadence = true) ∧
    (conflicting.length = 59 ∧ still.ready ∧ (TractionTable.decode conflicting).1.regulation = .closedLoop ∧
      (TractionTable.decode conflicting).1.gapUs = 0) := by
  and_intros <;> decide +kernel

/-- A sample with loop points to its end, at the end of the flash. -/
def lastSample : SampleEntry := { start := 16774216, length := 3000, loop := some { first := 0, stop := 3000 } }

theorem lastSample_inRange : lastSample.inRange := by
  refine ⟨by decide, by decide, ?_⟩
  intro l h
  cases h
  decide

theorem witness_WriteTableStoresEntry :
    (still.ready ∧ still.mode = .config ∧ still.cadence.watch = none) ∧ TractionTable.defaults.inRange ∧
    CadenceTable.defaults.inRange ∧ RadioTable.defaults.inRange ∧ lastSample.inRange ∧
    (List.replicate 9 0#8).length = 9 ∧ (List.replicate 16 0#8).length = 16 ∧ (List.replicate 8 0#8).length = 8 :=
  ⟨by decide +kernel, by decide +kernel, by decide +kernel, by decide +kernel, lastSample_inRange, rfl, rfl, rfl⟩

/-- The clauses over any bytes, in RUN, and over the watched sensor. -/
theorem witness_WriteTableStoresEntry_live :
    (let entry := ({ TractionTable.defaults with accelRate := 7 } : TractionTable).encode
     calm.ready ∧ entry.length = 59 ∧ calm.mode = .run ∧ calm.tables.configOnlyDiffers 0 entry = false ∧
     ¬((TractionTable.decode entry).1.regulation = .closedLoop ∧ (TractionTable.decode entry).1.gapUs = 0)) ∧
    (let entry := ({ CadenceTable.defaults with chuffs := 6 } : CadenceTable).encode
     entry.length = 12 ∧ calm.tables.configOnlyDiffers 1 entry = false ∧ calm.cadence.watch = none) ∧
    (let entry := otherCadence
     let s := { wheeled { still.cadence with watch := some 20000 } with mode := .config, now := 4020000 }
     s.ready ∧ entry.length = 12 ∧ (CadenceTable.decode entry).1.timeout ≤ (s.now + 0 - 20000) / 2000 ∧
     (s.now - 2000 - 20000) / 2000 < (CadenceTable.decode entry).1.timeout ∧
     (CadenceTable.decode entry).1.sensorMode = .sensor) ∧
    (∀ emf ∈ [0, 1600],
      let entry := CadenceTable.defaults.encode
      let s := { wheeled { calm.cadence with watch := some 20000 } with now := 4020000, motion := { emf := emf } }
      s.ready ∧ s.tables.configOnlyDiffers 1 entry = false ∧
      (CadenceTable.decode entry).1.timeout ≤ (s.now + 0 - 20000) / 2000 ∧ (CadenceTable.decode entry).1.sensorMode = .auto ∧
      (CadenceTable.decode entry).1.emfFloor ≤ 1600) ∧
    (RadioTable.defaults.encode.length = 13 ∧ calm.tables.configOnlyDiffers 2 RadioTable.defaults.encode = false) ∧
    ((List.replicate 5 0#8).length = 5 ∧ (List.replicate 10 0#8).length = 10 ∧ (List.replicate 3 0#8).length = 3 ∧
      (List.replicate 7 0#8).length = 7) ∧
    (ChuffTable.defaults.encode.length = 20 ∧ calm.tables.configOnlyDiffers 7 ChuffTable.defaults.encode = false) ∧
    65535 < 65536 := by
  and_intros <;> decide +kernel

/-- No option is out of range when it is absent, nor when its number is in range. -/
theorem optionInRange_of {hi : Nat} {o : Option Nat} (h : (o.getD 0) ≤ hi) : optionInRange hi o := by
  intro n hn
  subst hn
  exact h

theorem witness_TableEntriesRoundTrip :
    TractionTable.defaults.inRange ∧ CadenceTable.defaults.inRange ∧ RadioTable.defaults.inRange ∧
    ({ FuncEntry.defaultFor 1 with cue := some 63 } : FuncEntry).inRange ∧
    ({ id := 65535, qualifier := .rev, action := .stop, parameter := 600, delay := 255, rearm := 200 } : BeaconEntry).inRange ∧
    lastSample.inRange ∧ (CueEntry.defaultFor 63).inRange ∧ ChuffTable.defaults.inRange ∧
    AmbientTable.inRange { stopped := some 63, working := none, drifting := some 0 } ∧ SmokeTable.defaults.inRange ∧
    (LampEntry.defaultFor 0).inRange ∧ SupplyTable.defaults.inRange ∧ 255 ≤ 255 ∧ (20 ≤ 20 ∧ 20 ≤ 2000 ∧ 20 ≤ 2000 ∧ 2000 ≤ 2000) := by
  refine ⟨by decide +kernel, by decide +kernel, by decide +kernel, optionInRange_of (by decide), by decide, lastSample_inRange,
    by decide, ⟨?_, by decide⟩, ⟨optionInRange_of (by decide), optionInRange_of (by decide), optionInRange_of (by decide)⟩,
    by decide, ⟨by decide, optionInRange_of (by decide), by decide⟩, by decide, by decide, by decide⟩
  intro o ho
  have h : o = none := by
    have := (List.mem_replicate (n := 12) (a := (none : Option Nat))).mp ho
    exact this.2
  subst h
  exact optionInRange_of (by decide)

theorem witness_StatusAndCountersAreRead :
    calm.ready ∧ 4 < (5#8 : Byte).toNat ∧ calm.counters.group (4#8 : Byte).toNat = some [0, 0] := by
  and_intros <;> decide +kernel

theorem witness_StatusAndCountersAreRead_record :
    (steered { stopSeq := .counting 255 }).control.stopSeq = .counting 255 ∧
    (steered { stopSeq := .braking }).control.stopSeq = .braking ∧ calm.control.stopSeq = .none ∧
    (steered { stopSeq := .dwell { since := 19999, ticks := 2000 } }).control.stopSeq = .dwell { since := 19999, ticks := 2000 } ∧
    calm.smoke.temperature = none ∧ ({ calm with smoke := { temperature := some (-20) } } : State).smoke.temperature = some (-20) ∧
    (4 : Nat) < 5 := by
  and_intros <;> decide +kernel

/-- The fields of the status record in their places (R181): a dwell of 1 ms begun, a temperature of −20 °C. -/
theorem test_status_record :
    let s : State := { steered { source := .host, owner := some 0x1234, throttle := 0x0102, stopSeq := .dwell { since := 19999, ticks := 2000 } } with
      smoke := { temperature := some (-20) }, motion := { state := .run, demand := 0x030400, direction := .rev } }
    s.statusRecord.take 23 = [1, 0, 0, 2, 0x12, 0x34, 1, 2, 0, 0, 0, 3, 0, 0, 0, 1, 1, 0, 1, 3, 4, 0, 0] ∧
    (s.statusRecord.drop 34) = [0, 0xFF, 0xEC, 0, 0] := by decide +kernel

theorem witness_ClearFaultClearsLatchedFaults :
    (calm.ready ∧ calm.motion.state ≠ .fault ∧ calm.smoke.latch = none) ∧
    (let s := moving { state := .fault, faultCause := some .stall }
     s.ready ∧ s.motion.state = .fault) ∧
    (let s := { calm with smoke := { state := .fault, latch := some .dry } }
     s.ready ∧ s.smoke.latch ≠ none) := by
  and_intros <;> decide +kernel

theorem witness_DriveGivesTheHostControl :
    (still.ready ∧ still.mode = .config) ∧ (calm.ready ∧ calm.mode = .run ∧ min 1023 (1#16).toNat ≠ 0 ∧ calm.control.stopSeq = .none) ∧
    (let s := steered { stopSeq := .braking }
     s.ready ∧ s.mode = .run ∧ s.control.stopSeq ≠ .none) ∧
    (let s := { steered { estop := true } with motion := { state := .estop } }
     s.ready ∧ min 1023 (0#16).toNat = 0 ∧ s.control.stopSeq = .none ∧ s.motion.state = .estop ∧ s.control.estop = true) ∧
    (let s := { moving { state := .fault, faultTime := 10 } with now := 2020000 }
     s.ready ∧ s.motion.state = .fault ∧ 1000 ≤ (s.timestamp + 4294967296 - s.motion.faultTime) % 4294967296 ∧
     s.control.stopSeq = .none) ∧
    (let s := { moving { state := .fault, faultTime := 10 } with now := 2019999 }
     s.ready ∧ (s.timestamp + 4294967296 - s.motion.faultTime) % 4294967296 < 1000) ∧
    (let s := { steered { stopSeq := .braking, estop := true } with motion := { state := .fault, faultTime := 4294966306 } }
     s.ready ∧ s.mode = .run ∧ min 1023 (0#16).toNat = 0 ∧ s.control.stopSeq ≠ .none ∧ s.motion.state = .fault ∧
     1000 ≤ (s.timestamp + 4294967296 - s.motion.faultTime) % 4294967296) ∧
    (let s := { steered { stopSeq := .counting 2, estop := true } with motion := { state := .estop } }
     s.ready ∧ s.control.stopSeq ≠ .none ∧ s.motion.state = .estop ∧ s.control.estop = true) := by
  and_intros <;> decide +kernel

/-- The fault time is a timestamp that wraps, and the age of a fault with it (R1, assumption 40). -/
theorem test_fault_age_wraps :
    let s := { moving { state := .fault, faultTime := 4294966306 } with now := 20000 }
    (after (.drive 0 1 0 0) s).motion.state = .idle ∧
    (after (.drive 0 1 0 0) { s with now := 18000 }).motion.state = .fault := by decide +kernel

theorem witness_HostGivesUpControl :
    (still.ready ∧ still.mode = .config) ∧ (calm.ready ∧ calm.mode = .run ∧ calm.control.source ≠ .host) ∧
    (let s := steered { source := .host, owner := some 5 }
     s.ready ∧ s.control.source = .host ∧ s.control.owner = some 5) ∧
    (let s := steered { source := .host }
     s.ready ∧ s.control.source = .host ∧ s.control.owner = none) ∧
    (let s := { steered { source := .host } with link := { hostLease := some { since := 20000, ticks := 2000000 } } }
     s.rested ∧ s.now + 1999999 < 20000 + 2000000 ∧ 20000 + 2000000 ≤ s.now + 2000000 ∧ s.control.owner = none) ∧
    (let s := { steered { source := .host, owner := some 5 } with link := { hostLease := some { since := 20000, ticks := 2000000 } } }
     s.rested ∧ s.control.source = .host) := by
  and_intros <;> decide +kernel

theorem witness_HostGivesUpControl_notice :
    ∀ owner ∈ [none, some 5],
      let s := { steered { source := .host, owner := owner } with link := { hostLease := some { since := 20000, ticks := 2000000 } } }
      s.rested ∧ s.linkQuiet ∧ 20000 + 2000000 ≤ s.now + 2000000 ∧ s.control.source = .host := by
  decide +kernel

/-- The expiry of the host lease is told in a SOURCE notice with its cause (R84, R181). -/
theorem test_host_lease_notice :
    let t := after (.hostLeaseExpiry 2000000)
      { steered { source := .host, owner := some 5 } with link := { hostLease := some { since := 20000, ticks := 2000000 } } }
    t.link.onLine = some (.notice (t.noticed (.source .radio .hostLease))) := by decide +kernel

theorem witness_StopRequestStopsAtOnce :
    (still.ready ∧ still.mode = .config) ∧
    (let s := moving { state := .run, demand := 90000 }
     s.ready ∧ s.mode = .run ∧ s.motion.state.regulating = true) ∧
    (let s := moving { state := .fault }
     s.ready ∧ s.motion.state.regulating = false) := by
  and_intros <;> decide +kernel

theorem witness_SetFunctionWritesOneFunction :
    (still.ready ∧ still.mode = .config) ∧ (calm.ready ∧ calm.mode = .run ∧ 31 < (32#8 : Byte).toNat) ∧
    ((31 : Fin 32).val = (31#8 : Byte).toNat ∧ calm.tables.funcMap[(31 : Fin 32)].cue = none) := by
  and_intros <;> decide +kernel

/-- A function that is off gives no flag, whatever it carries; one that is on gives the flags it carries (R89). -/
theorem test_derived_flags :
    let map := (calm.tables.funcMap.set 8 { calm.tables.funcMap[(8 : Fin 32)] with shunting := true, dim := true }).set 9
      { calm.tables.funcMap[(9 : Fin 32)] with mute := true }
    let on := calm.control.functions.set 8 { on := true, writer := .host }
    (deriveFlags on map).shunting = true ∧ (deriveFlags on map).dim = true ∧ (deriveFlags on map).mute = false := by
  decide +kernel

/-- A part whose cue 2 (priority 6, RESTART) and cue 3 (priority 2) play a sample, with the restart policy of cue 0 IGNORE
and cue 1 a scene. -/
def staged : State :=
  let cues := tuned.tables.cue
  let e : CueEntry := cues[(0 : Fin 64)]
  { tuned with tables := { tuned.tables with
      cue := (cues.set 0 { e with restart := .ignore }).set 1 { CueEntry.defaultFor 0 with cls := .scene } } }

/-- The crowded voices on it, voice 5 holding cue 2, voice 4 cue 0, each of the priority given. -/
def full (p : Nat) : State :=
  let v (cue : Nat) : Voice :=
    { state := .playing, content := some (.cue cue), host := true, priority := p,
      sample := { start := 0, length := 900, loop := none }, multiplier := 256 }
  { staged with sound := { staged.sound with
      voices := ((((staged.sound.voices.set 3 (v 12)).set 4 (v 0)).set 5 (v 2)).set 6 (v 9)).set 7 (v 11),
      order := [6, 3, 7, 4, 5] } }

theorem witness_PlayCueTakesAVoice :
    (calm.ready ∧ 63 < (64#8 : Byte).toNat) ∧
    (let s := supplied { state := .depleted }
     s.ready ∧ (63#8 : Byte).toNat ≤ 63 ∧ s.supply.state = .depleted) ∧
    (calm.supply.state ≠ .depleted ∧ (calm.tables.sampleAt (calm.tables.cueAt 63).slot).length = 0) ∧
    (let s := { staged with store := { port := .store, op := some { writing with address := 68543 } } }
     s.ready ∧ s.store.blocks (s.tables.sampleAt (s.tables.cueAt 2).slot) = true) ∧
    (staged.ready ∧ (staged.tables.sampleAt (staged.tables.cueAt 2).slot).length ≠ 0 ∧
      staged.store.blocks (staged.tables.sampleAt (staged.tables.cueAt 2).slot) = false ∧
      (staged.tables.cueAt 2).cls ≠ .scene ∧
      (∀ i : Fin 8, staged.sound.general i = true → staged.sound.voices[i].holds 2 = false) ∧
      staged.sound.general 3 = true ∧ staged.sound.voices[(3 : Fin 8)].state = .free ∧
      ∀ j : Fin 8, j < 3 → staged.sound.general j = true → staged.sound.voices[j].state ≠ .free) ∧
    (crowded.ready ∧ (∀ j : Fin 8, crowded.sound.general j = true → crowded.sound.voices[j].state ≠ .free) ∧
      (∀ i : Fin 8, crowded.sound.general i = true → crowded.sound.voices[i].holds 2 = false) ∧
      crowded.sound.order = [6] ++ 3 :: [7, 4, 5] ∧ crowded.sound.voices[(3 : Fin 8)].priority < (crowded.tables.cueAt 2).priority ∧
      (∀ j ∈ ([6] : List (Fin 8)), crowded.sound.general j = true →
        crowded.sound.voices[(3 : Fin 8)].priority < crowded.sound.voices[j].priority) ∧
      ∀ j ∈ ([7, 4, 5] : List (Fin 8)), crowded.sound.general j = true →
        crowded.sound.voices[(3 : Fin 8)].priority ≤ crowded.sound.voices[j].priority) ∧
    ((∀ i : Fin 8, crowded.sound.general i = true → crowded.sound.voices[i].holds 3 = false) ∧
      ∀ j : Fin 8, crowded.sound.general j = true → (crowded.tables.cueAt 3).priority ≤ crowded.sound.voices[j].priority) ∧
    ((full 3).ready ∧ ((full 3).tables.cueAt 0).restart = .ignore ∧
      ∃ i ∈ (full 3).sound.order, (full 3).sound.general i = true ∧ (full 3).sound.voices[i].holds 0 = true) ∧
    (((full 3).tables.cueAt 2).restart = .restart ∧ (full 3).sound.order = [6, 3, 7, 4] ++ 5 :: [] ∧
      (full 3).sound.general 5 = true ∧ (full 3).sound.voices[(5 : Fin 8)].holds 2 = true) ∧
    ((staged.tables.cueAt 1).cls = .scene ∧ staged.sound.voices[(0 : Fin 8)].state = .free ∧
      (staged.tables.sampleAt (staged.tables.cueAt 1).slot).length ≠ 0) := by
  and_intros <;> decide +kernel

/-- A part whose function 2 is on, voices 4 and 5 looping its cue 2, the one with a release of 20 ms. -/
def looping : State :=
  let v (release : Nat) : Voice :=
    { state := .playing, content := some (.cue 2), cls := .loop, release := release, multiplier := 256,
      sample := { start := 0, length := 900, loop := none } }
  { staged with
    control := { functions := calm.control.functions.set 2 { on := true } },
    sound := { staged.sound with voices := (staged.sound.voices.set 4 (v 20)).set 5 (v 0), order := [4, 5] } }

theorem witness_SetFunctionWritesOneFunction_handsOver :
    (let s := { staged with supply := { state := .depleted } }
     s.ready ∧ s.mode = .run ∧ (2 : Fin 32).val = (2#8 : Byte).toNat ∧ s.control.functions[(2 : Fin 32)].on ≠ (1#8 != 0#8) ∧
     s.tables.funcMap[(2 : Fin 32)].cue = some 2 ∧ s.supply.state = .depleted) ∧
    (calm.supply.state ≠ .depleted ∧ (calm.tables.sampleAt (calm.tables.cueAt 2).slot).length = 0) ∧
    (let s := { staged with store := { port := .store, op := some { writing with address := 68543 } } }
     s.ready ∧ s.store.blocks (s.tables.sampleAt (s.tables.cueAt 2).slot) = true) ∧
    (staged.ready ∧ staged.control.functions[(2 : Fin 32)].on ≠ (1#8 != 0#8) ∧ staged.tables.funcMap[(2 : Fin 32)].cue = some 2 ∧
      (staged.tables.sampleAt (staged.tables.cueAt 2).slot).length ≠ 0 ∧
      staged.store.blocks (staged.tables.sampleAt (staged.tables.cueAt 2).slot) = false ∧ (staged.tables.cueAt 2).cls ≠ .scene ∧
      (∀ i : Fin 8, staged.sound.general i = true → staged.sound.voices[i].holds 2 = false) ∧
      staged.sound.general 3 = true ∧ staged.sound.voices[(3 : Fin 8)].state = .free ∧
      ∀ j : Fin 8, j < 3 → staged.sound.general j = true → staged.sound.voices[j].state ≠ .free) ∧
    (looping.ready ∧ looping.control.functions[(2 : Fin 32)].on ≠ (0#8 != 0#8) ∧ looping.tables.funcMap[(2 : Fin 32)].cue = some 2 ∧
      looping.sound.general 4 = true ∧ looping.sound.voices[(4 : Fin 8)].holds 2 = true ∧
      looping.sound.voices[(4 : Fin 8)].release ≠ 0 ∧ looping.sound.voices[(4 : Fin 8)].waiting = false ∧
      looping.sound.voices[(5 : Fin 8)].holds 2 = true ∧ looping.sound.voices[(5 : Fin 8)].release = 0 ∧
      looping.sound.voices[(6 : Fin 8)].holds 2 = false) := by
  and_intros <;> decide +kernel

/-- A function turned off releases the voices that loop its cue (R89). -/
theorem test_function_off_releases :
    (after (.setFunction 0 1 2 0) looping).sound.voices[(4 : Fin 8)].state = .releasing ∧
    (after (.setFunction 0 1 2 0) looping).sound.voices[(5 : Fin 8)].state = .free := by decide +kernel

/-- A scene of cue `n` on voice 0 in the state given, over `deep` saved contexts, cue 1 a scene with the restart policy given. -/
def performing (n deep : Nat) (state : VoiceState) (policy : RestartPolicy) : State :=
  let v : Voice :=
    { state := state, content := some (.cue n), host := true, cls := .scene, multiplier := 256,
      sample := { start := 0, length := 900, loop := none } }
  { staged with
    tables := { staged.tables with
      cue := staged.tables.cue.set 1 { CueEntry.defaultFor 0 with cls := .scene, restart := policy } },
    sound := { staged.sound with voices := staged.sound.voices.set 0 v, order := [0], stack := List.replicate deep v } }

theorem witness_PlayCueTakesAVoice_scenes :
    (∀ s ∈ [performing 1 0 .playing .ignore, performing 1 4 .playing .restart, performing 7 3 .playing .ignore,
        performing 7 4 .playing .ignore, performing 1 4 .playing .layer, performing 7 4 .releasing .restart],
      s.ready ∧ s.supply.state ≠ .depleted ∧ (s.tables.sampleAt (s.tables.cueAt 1).slot).length ≠ 0 ∧
      s.store.blocks (s.tables.sampleAt (s.tables.cueAt 1).slot) = false ∧ (s.tables.cueAt 1).cls = .scene) ∧
    (let s := performing 1 0 .playing .ignore
     s.sound.voices[(0 : Fin 8)].state = .playing ∧ s.sound.voices[(0 : Fin 8)].isScene = true ∧
     s.sound.voices[(0 : Fin 8)].holds 1 = true ∧ (s.tables.cueAt 1).restart = .ignore) ∧
    (let s := performing 1 4 .playing .restart
     s.sound.voices[(0 : Fin 8)].holds 1 = true ∧ (s.tables.cueAt 1).restart = .restart) ∧
    (let s := performing 7 3 .playing .ignore
     s.sound.voices[(0 : Fin 8)].holds 1 = false ∧ s.sound.stack.length < 4) ∧
    (let s := performing 7 4 .playing .ignore
     4 ≤ s.sound.stack.length ∧ s.sound.pendingScene = none) ∧
    (let s := performing 1 4 .playing .layer
     (s.tables.cueAt 1).restart = .layer ∧ 4 ≤ s.sound.stack.length ∧
     { s.sound with pendingScene := some { cue := 9, host := false } }.pendingScene ≠ none) ∧
    (let s := performing 7 4 .releasing .restart
     s.sound.voices[(0 : Fin 8)].state = .releasing ∧ s.sound.voices[(0 : Fin 8)].host = true) := by
  and_intros <;> decide +kernel

/-- A scene saves what voice 0 plays, and with a full stack waits (R113). -/
theorem test_scene_start :
    (after (.playCue 0 1 1) (performing 7 3 .playing .ignore)).sound.stack.length = 4 ∧
    (after (.playCue 0 1 1) (performing 7 4 .playing .ignore)).sound.pendingScene = some { cue := 1, host := true } := by
  decide +kernel

theorem witness_HaltCueReleasesHolders :
    (calm.ready ∧ 63 < (64#8 : Byte).toNat) ∧
    ((full 3).ready ∧ (full 3).sound.voices[(5 : Fin 8)].holds 2 = true ∧ (full 3).sound.general 5 = true ∧
      (5 : Fin 8) ≠ 0 ∧ (full 3).sound.voices[(5 : Fin 8)].release = 0 ∧ (full 3).sound.voices[(6 : Fin 8)].holds 2 = false) ∧
    (let s := { full 3 with sound := { (full 3).sound with
      voices := (full 3).sound.voices.set 5 { (full 3).sound.voices[(5 : Fin 8)] with release := 20 } } }
     s.sound.voices[(5 : Fin 8)].holds 2 = true ∧ s.sound.voices[(5 : Fin 8)].release ≠ 0 ∧
      s.sound.voices[(5 : Fin 8)].waiting = false) := by
  and_intros <;> decide +kernel

/-- A scene of cue 7 on voice 0 that waits for its first line with a release of 20, over the stack given. -/
def silentScene (stack : List Voice) : State :=
  let s := performing 7 0 .playing .restart
  { s with sound := { s.sound with
      voices := s.sound.voices.set 0 { s.sound.voices[(0 : Fin 8)] with waiting := true, release := 20 }, stack := stack } }

theorem witness_HaltCueReleasesHolders_freed :
    ((full 3).sound.voices[(5 : Fin 8)].host = true ∧ (full 3).sound.voices[(5 : Fin 8)].release = 0 ∧
      (full 3).sound.voices[(0 : Fin 8)].holds 2 = false) ∧
    (let s := silentScene []
     s.ready ∧ s.sound.voices[(0 : Fin 8)].holds 7 = true ∧ s.sound.voices[(0 : Fin 8)].isScene = true ∧
     s.sound.voices[(0 : Fin 8)].waiting = true ∧ s.sound.pendingScene = none ∧ s.sound.stack = [] ∧ s.mode = .run) ∧
    (let saved : Voice := { state := .playing, content := some (.cue 9), cls := .scene, sample := { start := 0, length := 900, loop := none } }
     let s := silentScene [saved]
     s.ready ∧ s.sound.pendingScene = none ∧ s.sound.stack = [saved] ∧ saved.content = some (.cue 9) ∧
     s.store.blocks saved.sample = false) := by
  and_intros <;> decide +kernel

/-- A scene that has sounded nothing is freed at once whatever its release, and the saved scene goes on (R105, R114,
assumption 59). -/
theorem test_halt_silent_scene :
    let t := after (.haltCue 0 1 7) (silentScene [{ content := some (.cue 9), cls := .scene, position := 70 }])
    t.link.notices = [t.noticed (.cueDone 7 0 .released)] ∧ t.sound.stack = [] ∧
    t.sound.voices[(0 : Fin 8)].content = some (.cue 9) ∧ t.sound.voices[(0 : Fin 8)].position = 70 := by decide +kernel

theorem witness_StoreRequestsAreJudged :
    (calm.ready ∧ 4095 < (4096#16).toNat ∧ (4095#16).toNat ≤ 4095) ∧
    (let s := stored { port := .store, op := some writing }
     s.ready ∧ s.store.op ≠ none) ∧
    State.ready { calm with store := {} } ∧
    (full 3).sound.playsIn ((0#16).toNat * 4096) 4096 = true ∧ calm.sound.playsIn ((4095#16).toNat * 4096) 4096 = false ∧
    ¬(1 ≤ ([] : List Byte).length) ∧ (1 ≤ [1#8].length ∧ [1#8].length ≤ 128 ∧ (255#24).toNat % 256 + [1#8].length ≤ 256) ∧
    (full 3).sound.playsIn (899#24).toNat 1 = true ∧ calm.sound.playsIn (255#24).toNat 1 = false ∧
    calm.store.op = none ∧ calm.store.port ≠ .waiting := by
  and_intros <;> decide +kernel

theorem witness_RadioAssemblerTakesBytes :
    (tunedIn { assembler := .discarding }).rested ∧ (calm.radio.assembler = .quiet ∧ (17#8 : Byte).toNat ≤ 17) ∧
    17 < (18#8 : Byte).toNat ∧
    (let all := [12#8] ++ [1#8]
     ¬((all.headD 0).toNat + 2 ≤ all.length)) ∧
    (let all := [0#8] ++ [90#8]
     (all.headD 0).toNat + 2 ≤ all.length ∧ calm.mode = .run ∧
      (checkBurst calm.tables.radio.rssiFloor all matches .error .short)) ∧
    (let all := burstBytes 4 5 9 1 [] 90
     (all.headD 0).toNat + 2 ≤ all.length ∧ (checkBurst calm.tables.radio.rssiFloor all matches .ok _) ∧
      calm.tables.radio.classOf 9 = none) ∧
    (let s := tunedIn { assembler := .collecting true [9], gap := some { since := 20000, ticks := 2000 } }
     s.rested ∧ s.now + 1999 < 20000 + 2000 ∧ 20000 + 2000 ≤ s.now + 2000) := by
  and_intros <;> decide +kernel

/-- All but the last byte of a burst have come in, the last being the RSSI. -/
def receiving (burst : List Byte) (r : Radio) : State :=
  tunedIn { r with assembler := .collecting true burst.dropLast, gap := some { since := 20000, ticks := 2000 } }

/-- The bursts of the kept kinds, with their RSSI: a THROTTLE at broadcast, a far BEACON, a near one, an ESTOP and a SELECT. -/
def kept (kind source destination : Nat) (rssi : Byte) : List Byte := burstBytes kind source destination 9 [] rssi

theorem witness_RadioAssemblerTakesBytes_kept :
    (let s := receiving (kept 4 101 0 90) {}
     let all := kept 4 101 0 90
     s.rested ∧ s.mode = .run ∧ (all.headD 0).toNat + 2 ≤ all.length ∧
     (checkBurst s.tables.radio.rssiFloor all).toOption = some
       { kind := .select, source := 101, destination := 0, sequence := 9, body := .empty, rssi := 90 } ∧
     s.tables.radio.classOf 0 = some .broadcast ∧ s.radio.assembler = .collecting true all.dropLast ∧
     all.dropLast ++ [90#8] = all) ∧
    (let all := kept 6 7 0 139
     (checkBurst 30 all).toOption = some { kind := .beacon, source := 7, destination := 0, sequence := 9, body := .empty, rssi := 139 } ∧
     139 < calm.tables.radio.beaconRssi) ∧
    (let all := kept 3 101 3 90
     let s := receiving all {}
     (checkBurst 30 all).toOption = some { kind := .estop, source := 101, destination := 3, sequence := 9, body := .empty, rssi := 90 } ∧
     s.tables.radio.classOf 3 = some .own ∧ s.linkQuiet ∧ s.control.stopSeq = .none) := by
  and_intros <;> decide +kernel

theorem witness_RadioAssemblerTakesBytes_classes :
    (calm.rested ∧ calm.radio.gap = none) ∧
    (let r := { RadioTable.defaults with own := 3, consist := 12 }
     3 = r.own ∧ (12 ≠ r.own ∧ r.consist ≠ 0 ∧ 12 = r.consist) ∧ (0 ≠ r.own ∧ 0 ≠ r.consist) ∧
     (13 ≠ r.own ∧ 13 ≠ r.consist ∧ (13 : Nat) ≠ 0)) ∧ RadioTable.defaults.consist = 0 := by
  and_intros <;> decide +kernel

/-- A burst cut off by the gap is TRUNCATED and ends the error-free run (R58); no expiry comes while the timer stands. -/
theorem test_gap_ends_the_run :
    let s := { receiving (kept 4 101 3 90) {} with counters := { radio := { errorFreeRun := 7 } } }
    (after (.radioGapExpiry 2000) s).counters.radio = { truncated := 1 } ∧
    (after (.radioGapExpiry 2000) calm).radio = calm.radio := by decide +kernel

/-- An ESTOP on the air stops a running motor at once (R65, R86). -/
theorem test_radio_estop :
    let s := { receiving (kept 3 101 0 90) {} with motion := { state := .run, demand := 90000 } }
    (after (.radioByte 0 90 true) s).motion.state = .estop ∧ (after (.radioByte 0 90 true) s).counters.radio.accepted = 1 := by
  decide +kernel

theorem witness_BurstRoundTrip :
    (65535 < 65536 ∧ 255 < 256 ∧ 30 ≤ (30#8 : Byte).toNat ∧
      decodeBody .throttle [3#8, 255#8, 1#8] = some (.throttle 1023 .rev)) ∧
    (let head := [4#8, 0, 5, 0, 3, 1, 0]
     7 ≤ head.length ∧ head.length ≤ 15 ∧ (head.getD 6 0).toNat = head.length - 7 ∧ (0#8 ++ 0#8 : BitVec 16) ≠ crc16 head) := by
  and_intros <;> decide +kernel

theorem witness_BurstRoundTrip_checks :
    (let packet (kind : Nat) (body : List Byte) := ((burstBytes kind 101 3 9 body 90).drop 1).dropLast
     (∀ p ∈ [packet 4 [], packet 1 [5, 220, 0], packet 2 [3, 0x5A]], 9 ≤ p.length ∧ (p.getD 6 0).toNat = p.length - 9 ∧
       (crc16 (p.take (p.length - 2))).toNat = (p.getD (p.length - 2) 0).toNat * 256 + (p.getD (p.length - 1) 0).toNat ∧
       1 ≤ (p.getD 0 0).toNat ∧ (p.getD 0 0).toNat ≤ 6) ∧
     (∀ p ∈ [packet 0 [], packet 7 [], packet 1 [5, 220], packet 2 [4, 0], packet 3 [0]],
       9 ≤ p.length ∧ (p.getD 6 0).toNat = p.length - 9 ∧
       (crc16 (p.take (p.length - 2))).toNat = (p.getD (p.length - 2) 0).toNat * 256 + (p.getD (p.length - 1) 0).toNat) ∧
     (packet 0 []).getD 0 0 = 0 ∧ (packet 7 []).getD 0 0 = 7 ∧ (packet 1 [5, 220]).length = 11 ∧
     4 ≤ ((packet 2 [4, 0]).getD 7 0).toNat ∧ (packet 3 [0]).length ≠ 9) ∧
    (29#8 : Byte).toNat < 30 ∧ (List.replicate 8 (0#8 : Byte)).length < 9 := by
  and_intros <;> decide +kernel

/-- One failure a burst, the worked cases of section 4.2: SHORT, WEAK before the check, LENGTH_MISMATCH, UNKNOWN_KIND, BAD_BODY. -/
theorem test_one_failure_a_burst :
    (checkBurst 30 (8#8 :: List.replicate 9 0#8) matches .error .short) ∧
    (checkBurst 30 (12#8 :: (List.replicate 12 0#8 ++ [25#8])) matches .error .weak) ∧
    (checkBurst 30 (12#8 :: (([1, 0, 5, 0, 3, 1, 2] ++ List.replicate 5 0#8) ++ [90#8])) matches .error .lengthMismatch) ∧
    (checkBurst 30 (burstBytes 7 5 3 1 [0, 0, 0] 90) matches .error .unknownKind) ∧
    (checkBurst 30 (burstBytes 1 5 3 1 [0, 0] 90) matches .error .badBody) ∧
    (checkBurst 30 (burstBytes 2 5 3 1 [5, 0] 90) matches .error .badBody) := by decide +kernel

/-- Eight slots heard at the times given. -/
def heard (t : Fin 8 → Option Nat) : Radio :=
  { duplicates := Vector.ofFn (fun k => (t k).map (fun h => { source := 101 + k.val, sequence := 9, heard := h })) }

theorem witness_DuplicateTableJudgesRepeats :
    (let r := heard (fun k => some (10 + k.val))
     r.duplicates[(2 : Fin 8)] = some { source := 103, sequence := 9, heard := 12 } ∧
     (∀ j : Fin 8, j < 2 → ∀ d ∈ r.duplicates[j], d.source ≠ 103)) ∧
    (let r := heard (fun k => if k = 1 then none else some 10)
     (∀ j : Fin 8, ∀ d ∈ r.duplicates[j], d.source ≠ 909) ∧ r.duplicates[(1 : Fin 8)] = none ∧
     (∀ j : Fin 8, j < 1 → r.duplicates[j] ≠ none)) ∧
    (let r := heard (fun k => some (if k = 1 then 5 else 10))
     (∀ j : Fin 8, r.duplicates[j] ≠ none) ∧ (∀ j : Fin 8, j < 1 → r.heardAt 1 < r.heardAt j) ∧
     (∀ j : Fin 8, r.heardAt 1 ≤ r.heardAt j)) ∧
    (let r := heard (fun k => some k.val)
     ∀ i j : Fin 8, ∀ d ∈ r.duplicates[i], ∀ e ∈ r.duplicates[j], d.source = e.source → i = j) ∧
    (let s := { tunedIn (heard (fun _ => some 10)) with now := 4020000 }
     s.rested ∧ s.radio.duplicates[(7 : Fin 8)] = some { source := 108, sequence := 9, heard := 10 } ∧
     10 + 2000 ≤ (s.now + 0) / 2000 ∧ (4019998 + 1) / 2000 < 10 + 2000 ∧
     ({ s with now := 4019998 } : State).rested) ∧
    (let s := tunedIn (heard (fun _ => none))
     s.rested ∧ s.radio.duplicates[(7 : Fin 8)] = none) ∧
    (let all := kept 4 101 3 90
     let s := receiving all (heard (fun k => some k.val))
     s.rested ∧ s.mode = .run ∧ s.radio.assembler = .collecting true all.dropLast ∧ all.dropLast ++ [90#8] = all ∧
     (all.headD 0).toNat + 2 ≤ all.length ∧
     (checkBurst s.tables.radio.rssiFloor all).toOption = some
       { kind := .select, source := 101, destination := 3, sequence := 9, body := .empty, rssi := 90 } ∧
     s.tables.radio.classOf 3 = some .own ∧
     ({ kind := .select, source := 101, destination := 3, sequence := 9, body := .empty, rssi := 90 } : AirPacket).queued = some .select ∧
     s.radio.duplicates[(0 : Fin 8)] = some { source := 101, sequence := 9, heard := 0 }) := by
  and_intros <;> decide +kernel

theorem witness_DuplicateTableJudgesRepeats_beacon :
    (let all := kept 6 101 3 90
     let p : AirPacket := { kind := .beacon, source := 101, destination := 3, sequence := 9, body := .empty, rssi := 90 }
     let s := receiving all (heard (fun k => some k.val))
     s.rested ∧ s.mode = .run ∧ s.radio.assembler = .collecting true all.dropLast ∧ all.dropLast ++ [90#8] = all ∧
     (all.headD 0).toNat + 2 ≤ all.length ∧ (checkBurst s.tables.radio.rssiFloor all).toOption = some p ∧
     s.tables.radio.classOf 3 = some .own ∧ p.queued = some .beacon ∧
     s.radio.duplicates[(0 : Fin 8)] = some { source := 101, sequence := 9, heard := 0 }) ∧
    PacketClass.own ≠ .broadcast ∧ Packet.select ≠ .beacon := by
  and_intros <;> decide +kernel

/-- A BEACON sent to the locomotive's own address is NOT_FOR_ME and renews no entry of the duplicate table (R63, R66). -/
theorem test_own_beacon_is_not_for_me :
    let t := after (.radioByte 4000 90 true) (receiving (kept 6 101 3 90) (heard (fun k => some k.val)))
    t.counters.radio.notForMe = 1 ∧ t.counters.radio.duplicate = 0 ∧
    t.radio.duplicates[(0 : Fin 8)] = some { source := 101, sequence := 9, heard := 0 } := by decide +kernel

/-- A repeat is counted and goes no further; another sequence enters (R66). -/
theorem test_repeat_is_dropped :
    let s := receiving (kept 4 101 3 90) (heard (fun k => some k.val))
    let u := receiving (kept 4 110 3 90) (heard (fun k => some k.val))
    (after (.radioByte 0 90 true) s).counters.radio.duplicate = 1 ∧ (after (.radioByte 0 90 true) s).control.interp = none ∧
    (after (.radioByte 0 90 true) u).control.interp ≠ none := by decide +kernel

/-- A THROTTLE of handset 5. -/
def speedEntry : QueueEntry := { packet := .throttle 300 .rev, source := 5, cls := .consist, sequence := 1 }

/-- A SELECT of handset 5. -/
def selectEntry : QueueEntry := { packet := .select, source := 5, cls := .own, sequence := 2 }

theorem witness_InboundQueueTakesPackets :
    (speedEntry.throttleOf speedEntry.source && (tunedIn { queue := [speedEntry] }).radio.queue.any (fun q => q.throttleOf 5)) = true ∧
    ((selectEntry.throttleOf selectEntry.source && calm.radio.queue.any (fun q => q.throttleOf 5)) = false ∧
      (steered { interp := some { entry := speedEntry, timer := { since := 0, ticks := 500 } } }).control.interp ≠ none) ∧
    (calm.radio.queue = [] ∧ calm.control.interp = none) ∧
    (8 ≤ (tunedIn { queue := List.replicate 8 selectEntry }).radio.queue.length ∧ calm.radio.episode = false ∧
      (tunedIn { queue := List.replicate 8 selectEntry, episode := true }).radio.episode = true) ∧
    (linked { notices := List.replicate 15 { time := 0, notice := .mode .run } }).link.notices.length < 16 ∧
    (let all := kept 4 101 3 90
     let s := receiving all {}
     s.rested ∧ s.mode = .run ∧ s.radio.assembler = .collecting true all.dropLast ∧ all.dropLast ++ [90#8] = all ∧
     (all.headD 0).toNat + 2 ≤ all.length ∧
     (checkBurst s.tables.radio.rssiFloor all).toOption = some
       { kind := .select, source := 101, destination := 3, sequence := 9, body := .empty, rssi := 90 } ∧
     s.tables.radio.classOf 3 = some .own ∧ (s.radio.judge 101 9 (s.now / 2000)).2 = false) ∧
    (let all := kept 6 7 0 140
     let p : AirPacket := { kind := .beacon, source := 7, destination := 0, sequence := 9, body := .empty, rssi := 140 }
     (checkBurst 30 all).toOption = some p ∧ calm.tables.radio.classOf 0 = some .broadcast ∧ p.queued = some .beacon ∧
     calm.tables.radio.beaconRssi ≤ 140) := by
  and_intros <;> decide +kernel

/-- An interpretation that ends 250 µs from now. -/
def inHand (e : QueueEntry) : Interpretation := { entry := e, timer := { since := 20000, ticks := 500 } }

theorem witness_InterpretationOfThrottle :
    (calm.rested ∧ calm.control.interp = none) ∧
    (let s := steered { interp := some (inHand speedEntry), owner := some 5, source := .radio }
     s.rested ∧ s.now + 499 < 20000 + 500 ∧ 20000 + 500 ≤ s.now + 500 ∧ speedEntry.packet = .throttle 300 .rev ∧
     s.radio.queue = [] ∧ s.control.owner = some speedEntry.source ∧ s.control.source = .radio ∧ s.control.stopSeq = .none) ∧
    (let s := steered { interp := some (inHand speedEntry), owner := some 5, source := .radio, stopSeq := .counting 1 }
     s.rested ∧ s.control.stopSeq ≠ .none) ∧
    (let s := steered { interp := some (inHand speedEntry), owner := some 5, source := .host }
     s.rested ∧ s.control.source = .host) ∧
    (let s := steered { interp := some (inHand speedEntry), owner := some 6, source := .radio }
     s.rested ∧ s.control.owner = some 6 ∧ 6 ≠ speedEntry.source) ∧
    (let s := steered { interp := some (inHand { speedEntry with source := 0 }) }
     s.rested ∧ s.control.owner = none ∧ ({ speedEntry with source := 0 } : QueueEntry).source = 0) ∧
    (let s := steered { interp := some (inHand speedEntry) }
     s.rested ∧ s.control.owner = none ∧ s.tables.radio.autoSelect = true ∧ speedEntry.source ≠ 0 ∧
     s.control.source = .none ∧ s.control.stopSeq = .none) ∧
    (let halt : QueueEntry := { speedEntry with packet := .throttle 0 .fwd }
     let c : Control := { interp := some (inHand halt), owner := some 5, source := .radio, estop := true, stopSeq := .braking }
     let s := { steered c with motion := { state := .estop } }
     let u := { steered c with motion := { state := .fault, faultTime := 4294966306 } }
     s.rested ∧ halt.packet = .throttle 0 .fwd ∧ s.control.owner = some halt.source ∧ s.control.source = .radio ∧
     s.motion.state = .estop ∧ s.control.estop = true ∧ u.rested ∧ u.motion.state = .fault ∧
     1000 ≤ (u.timestamp + 4294967296 - u.motion.faultTime) % 4294967296 ∧
     (({ u with now := 18000 } : State).timestamp + 4294967296 - u.motion.faultTime) % 4294967296 < 1000) := by
  and_intros <;> decide +kernel

/-- A zero throttle of the owner ends the stop sequence and the estop latch (R87, R94). -/
theorem test_radio_zero_throttle :
    let halt : QueueEntry := { speedEntry with packet := .throttle 0 .fwd }
    let s := steered { interp := some (inHand halt), owner := some 5, source := .radio, estop := true, stopSeq := .braking }
    (after (.interpretationComplete 500) s).control.stopSeq = .none ∧
    (after (.interpretationComplete 500) s).control.estop = false := by decide +kernel

/-- A part with beacon 7 in the Beacon Table's entry 3, its action a zone cap. -/
def beaconed : State :=
  { calm with
    tables := { calm.tables with
      beacon := calm.tables.beacon.set 3 { BeaconEntry.defaults with id := 7, action := .cap, parameter := 300 } },
    control := { interp := some (inHand { packet := .beacon, source := 7, cls := .broadcast, sequence := 0 }) } }

theorem witness_InterpretationOfOtherPackets :
    (let s := steered { interp := some (inHand selectEntry) }
     s.rested ∧ 20000 + 500 ≤ s.now + 500 ∧ s.radio.queue = [] ∧ selectEntry.packet = .select ∧ selectEntry.source ≠ 0 ∧
     s.control.owner = none ∧ s.control.source = .none) ∧
    (let s := steered { interp := some (inHand selectEntry), owner := some 6 }
     s.rested ∧ s.control.owner = some 6 ∧ 6 ≠ selectEntry.source) ∧
    (let s := steered { interp := some (inHand { selectEntry with packet := .release }), owner := some 5, source := .radio }
     s.rested ∧ s.control.owner = some 5 ∧ s.control.source = .radio) ∧
    (let s := steered { interp := some (inHand { selectEntry with packet := .release }) }
     s.rested ∧ s.control.owner ≠ some 5) ∧
    (let s := steered { interp := some (inHand { selectEntry with packet := .functions 3 0xFF }), owner := some 5 }
     s.rested ∧ s.control.owner = some 5 ∧ (31 : Fin 32).val / 8 = 3 ∧ (23 : Fin 32).val / 8 ≠ 3) ∧
    (let s := steered { interp := some (inHand { packet := .beacon, source := 7, cls := .broadcast, sequence := 0 }) }
     s.rested ∧ ∀ k : Fin 16, s.tables.beacon[k].id ≠ 7 ∨ 7 = 0) ∧
    (beaconed.rested ∧ beaconed.tables.beacon[(3 : Fin 16)].id = 7 ∧ (∀ j : Fin 16, j ≠ 3 → beaconed.tables.beacon[j].id ≠ 7) ∧
      beaconed.tables.beacon[(3 : Fin 16)].action = .cap ∧ beaconed.control.beacons[(3 : Fin 16)].armed = true ∧
      beaconed.tables.beacon[(3 : Fin 16)].qualifier.admits beaconed.motion.direction = true) := by
  and_intros <;> decide +kernel

/-- The part of `beaconed` with another action, at the demand code and the armed state given. -/
def atBeacon (e : BeaconEntry) (demand : Nat) (armed : Bool) : State :=
  { beaconed with
    tables := { staged.tables with beacon := calm.tables.beacon.set 3 { e with id := 7 } },
    control := { beaconed.control with beacons := calm.control.beacons.set 3 { armed := armed } },
    motion := { state := if demand = 0 then .idle else .run, demand := demand * 256 } }

/-- A beacon of parameter `p`. -/
def acting (a : BeaconAction) (p delay : Nat) : BeaconEntry :=
  { BeaconEntry.defaults with action := a, parameter := p, delay := delay }

theorem witness_InterpretationOfOtherPackets_beacons :
    (∀ s ∈ [atBeacon (acting .cap 300 0) 0 false, atBeacon (acting .clearCap 300 0) 0 true, atBeacon (acting .stop 5 0) 0 true,
        atBeacon (acting .stop 5 3) 900 true, atBeacon (acting .functionOn 9 0) 0 true, atBeacon (acting .functionOff 2 0) 0 true,
        atBeacon (acting .cue 2 0) 0 true, atBeacon (acting .cue 9 0) 0 true],
      s.rested ∧ s.linkQuiet ∧ (∃ i, s.control.interp = some i ∧ i.timer.since + i.timer.ticks ≤ s.now + 500 ∧
        i.entry.packet = .beacon ∧ i.entry.source = 7) ∧ s.radio.queue = [] ∧ s.tables.beacon[(3 : Fin 16)].id = 7 ∧
      (∀ j : Fin 16, j ≠ 3 → s.tables.beacon[j].id ≠ 7) ∧
      s.tables.beacon[(3 : Fin 16)].qualifier.admits s.motion.direction = true) ∧
    (atBeacon (acting .cap 300 0) 0 false).control.beacons[(3 : Fin 16)].armed = false ∧
    ((atBeacon (acting .stop 5 0) 0 true).motion.demandCode = 0 ∧ 0 < (atBeacon (acting .stop 5 3) 900 true).motion.demandCode ∧
      (atBeacon (acting .stop 5 3) 900 true).control.stopSeq = .none ∧
      (atBeacon (acting .stop 5 3) 900 true).control.beacons[(3 : Fin 16)].armed = true) ∧
    ((Fin.ofNat 32 9 : Fin 32) = 9 ∧ calm.tables.funcMap[(9 : Fin 32)].cue = none) ∧
    (let s := atBeacon (acting .cue 2 0) 0 true
     let u := { s with tables := { s.tables with cue := s.tables.cue.set 2 { s.tables.cueAt 2 with restart := .layer } } }
     u.supply.state ≠ .depleted ∧ u.store.blocks (u.tables.sampleAt (u.tables.cueAt 2).slot) = false ∧
     (u.tables.cueAt 2).cls ≠ .scene ∧ (u.tables.cueAt 2).restart = .layer ∧
     (u.tables.sampleAt (u.tables.cueAt 2).slot).length ≠ 0 ∧ u.sound.general 3 = true ∧
     u.sound.voices[(3 : Fin 8)].state = .free ∧ (∀ l : Fin 8, l < 3 → u.sound.general l = true → u.sound.voices[l].state ≠ .free)) ∧
    (let s := atBeacon (acting .cue 9 0) 0 true
     let u := { s with tables := { s.tables with cue := s.tables.cue.set 9 { s.tables.cueAt 9 with restart := .layer } } }
     (u.tables.sampleAt (u.tables.cueAt 9).slot).length = 0 ∧ u.store.blocks (u.tables.sampleAt (u.tables.cueAt 9).slot) = false ∧
     (u.tables.cueAt 9).restart = .layer ∧ (u.tables.cueAt 9).cls ≠ .scene) := by
  and_intros <;> decide +kernel

theorem witness_InterpretationOfOtherPackets_owners :
    (∀ source ∈ [Source.host, .radio],
      let s := steered { interp := some (inHand selectEntry), source := source }
      s.rested ∧ s.linkQuiet ∧ s.control.owner = none ∧ s.control.source ≠ .none ∧ selectEntry.source ≠ 0) ∧
    (∀ source ∈ [Source.host, .radio, .none],
      let s := steered { interp := some (inHand selectEntry), owner := some 5, source := source,
                         flags := deriveFlags calm.control.functions calm.tables.funcMap }
      s.rested ∧ s.linkQuiet ∧ s.control.owner = some selectEntry.source ∧
      (after (.interpretationComplete 500) s).control.flags = s.control.flags) ∧
    (∀ source ∈ [Source.host, .none],
      let s := steered { interp := some (inHand { selectEntry with packet := .release }), owner := some 5, source := source }
      s.rested ∧ s.linkQuiet ∧ s.control.owner = some 5 ∧ s.control.source ≠ .radio) ∧
    (let s := steered { interp := some (inHand { selectEntry with packet := .functions 3 0xFF }), owner := some 6 }
     s.rested ∧ s.control.owner = some 6 ∧ 6 ≠ selectEntry.source) := by
  and_intros <;> decide +kernel

/-- Beacon 7 in entries 3, 4, 5, 6 and 9: two zone caps, a STOP of 3 revolutions, another STOP, and FUNCTION_ON, the entry 4 not
armed where `off` is set. -/
def manyEntries (off : Bool) : State :=
  let e (a : BeaconAction) (p delay : Nat) : BeaconEntry := { acting a p delay with id := 7 }
  { atBeacon (acting .cap 300 0) 900 true with
    tables := { staged.tables with beacon := ((((calm.tables.beacon.set 3 (e .cap 300 0)).set 4 (e .cap 200 0)).set 5
      (e .stop 5 3)).set 6 (e .stop 9 0)).set 9 (e .functionOn 9 0) },
    control := { beaconed.control with beacons := calm.control.beacons.set 4 { armed := !off }, throttle := 600 } }

theorem witness_InterpretationOfOtherPackets_entries :
    (∀ off ∈ [false, true],
      let s := manyEntries off
      s.rested ∧ s.radio.queue = [] ∧ (∃ i, s.control.interp = some i ∧ i.timer.since + i.timer.ticks ≤ s.now + 500 ∧
        i.entry.packet = .beacon ∧ i.entry.source = 7) ∧ s.tables.beacon[(3 : Fin 16)].id = 7 ∧
      s.smoke.latch = none ∧ (after (.interpretationComplete 500) s).link.lost = false ∧
      (List.finRange 16).filter (fun k => decide (s.beaconActs 7 k)) = if off then [3, 5, 6, 9] else [3, 4, 5, 6, 9]) ∧
    ((manyEntries true).control.stopSeq = .none ∧ 0 < (manyEntries true).motion.demandCode ∧
      (manyEntries true).counters.radio.stopIgnored ≤ 65535) := by
  and_intros <;> decide +kernel

/-- The entries act in index order: the later cap of one beacon stands, the first STOP starts and the second is ignored, and the
one BEACON notice tells it (R91 to R93). -/
theorem test_entries_act_in_order :
    let t := after (.interpretationComplete 500) (manyEntries false)
    t.control.caps = [{ beacon := 7, cap := 200 }] ∧ t.control.stopSeq = .counting 3 ∧ t.counters.radio.stopIgnored = 1 ∧
    t.control.functions[(9 : Fin 32)].on = true ∧
    t.link.notices = [t.noticed (.beacon 7 [{ index := 3, action := .cap, done := true }, { index := 4, action := .cap, done := true },
      { index := 5, action := .stop, done := true }, { index := 6, action := .stop, done := false },
      { index := 9, action := .functionOn, done := true }])] := by decide +kernel

/-- A station stop counts its revolutions, or brakes at once; a standing locomotive ignores it (R91, R93). -/
theorem test_station_stop :
    (after (.interpretationComplete 500) (atBeacon (acting .stop 5 3) 900 true)).control.stopSeq = .counting 3 ∧
    (after (.interpretationComplete 500) (atBeacon (acting .stop 5 0) 900 true)).control.stopSeq = .braking ∧
    (after (.interpretationComplete 500) (atBeacon (acting .stop 5 0) 0 true)).counters.radio.stopIgnored = 1 := by
  decide +kernel

/-- The hand-overs of R78: a FUNCTIONS packet counts its functions that change and have a cue; two entries of one beacon that
turn a function on and off count one each, and a third that leaves it off none. -/
theorem test_hand_over_count :
    let cues := (calm.tables.funcMap.set 8 { calm.tables.funcMap[(8 : Fin 32)] with cue := some 4 }).set 9
      { calm.tables.funcMap[(9 : Fin 32)] with cue := some 5 }
    let e (a : BeaconAction) : BeaconEntry := { acting a 8 0 with id := 7 }
    let s := { calm with tables := { calm.tables with funcMap := cues, beacon :=
      ((calm.tables.beacon.set 3 (e .functionOn)).set 4 (e .functionOff)).set 5 (e .functionOff) } }
    s.handOvers { selectEntry with packet := .functions 1 0x0F } = 2 ∧ s.handOvers { selectEntry with packet := .functions 1 0 } = 0 ∧
    s.handOvers { selectEntry with packet := .beacon, source := 7 } = 2 ∧ s.handOvers speedEntry = 0 := by decide +kernel

theorem witness_InterpretationTakesNextEntry :
    let s := { steered { interp := some (inHand speedEntry) } with radio := { queue := selectEntry :: [speedEntry] } }
    s.control.interp = some (inHand speedEntry) ∧ 20000 + 500 ≤ s.now + 500 ∧ s.radio.queue = selectEntry :: [speedEntry] := by
  and_intros <;> decide +kernel

theorem witness_OwnerLeaseExpiryDropsOwner :
    (calm.rested ∧ calm.control.lease = none) ∧
    (let s := steered { owner := some 5, source := .host, lease := some { since := 20000, ticks := 6000000 } }
     s.rested ∧ s.now + 5999999 < 20000 + 6000000 ∧ 20000 + 6000000 ≤ s.now + 6000000 ∧ s.control.source ≠ .radio) ∧
    (let s := steered { owner := some 5, source := .radio, lease := some { since := 20000, ticks := 6000000 } }
     s.rested ∧ s.control.source = .radio) := by
  and_intros <;> decide +kernel

theorem witness_DwellEndsAndBeaconsRearm :
    (let s := steered { stopSeq := .dwell { since := 20000, ticks := 4000 } }
     s.rested ∧ s.now + 3999 < 20000 + 4000 ∧ 20000 + 4000 ≤ s.now + 4000) ∧
    (calm.rested ∧ calm.control.stopSeq = .none) ∧
    (let s := steered { beacons := calm.control.beacons.set 2 { armed := false, unheard := some 20000 } }
     s.rested ∧ s.control.beacons[(2 : Fin 16)].unheard = some 20000 ∧
     s.tables.beacon[(2 : Fin 16)].rearm ≤ (s.now + 10000000 - 20000) / 2000 ∧
     (s.now + 9999999 - 20000) / 2000 < s.tables.beacon[(2 : Fin 16)].rearm) := by
  and_intros <;> decide +kernel

theorem witness_ZoneCapsKeepTheStrictest :
    let four : List ZoneCap := [{ beacon := 1, cap := 100 }, { beacon := 2, cap := 300 }, { beacon := 3, cap := 300 }, { beacon := 4, cap := 200 }]
    (∃ y ∈ four, y.beacon = 3) ∧ ((∀ y ∈ four.take 3, y.beacon ≠ 9) ∧ (four.take 3).length < 4) ∧
    ((∀ y ∈ four, y.beacon ≠ 9) ∧ 4 ≤ four.length ∧
      four = [{ beacon := 1, cap := 100 }] ++ { beacon := 2, cap := 300 } :: [{ beacon := 3, cap := 300 }, { beacon := 4, cap := 200 }] ∧
      (∀ x ∈ ([{ beacon := 1, cap := 100 }] : List ZoneCap), x.cap < 300) ∧
      (∀ x ∈ ([{ beacon := 3, cap := 300 }, { beacon := 4, cap := 200 }] : List ZoneCap), x.cap ≤ 300) ∧ 299 < 300 ∧ 300 ≤ 300) := by
  and_intros <;> decide +kernel

/-- The part driven without a gap. -/
def gapless (b : Bridge) : State :=
  { bridged b with tables := { calm.tables with
      traction := { calm.tables.traction with gapUs := 0, regulation := .openLoop } } }

theorem witness_TractionPeriodExpiryBeginsGap :
    (calm.rested ∧ calm.bridge.period = none) ∧
    (let s := bridged { state := .drive, period := some { since := 20000, ticks := 8000 } }
     s.rested ∧ s.now + 7999 < 20000 + 8000 ∧ 20000 + 8000 ≤ s.now + 8000 ∧ s.tables.traction.gapUs ≠ 0) ∧
    (let s := gapless { state := .tripped, period := some { since := 20000, ticks := 8000 } }
     s.rested ∧ s.tables.traction.gapUs = 0 ∧ s.bridge.state = .tripped) ∧
    (let s := gapless { state := .brake, period := some { since := 20000, ticks := 8000 } }
     s.rested ∧ s.bridge.state ≠ .tripped) ∧
    (drawing.rested ∧ drawing.bridge.period = some { since := 20000, ticks := 8000 } ∧ 20000 + 8000 ≤ drawing.now + 4000 ∧
      drawing.bridge.accumulation.since = some 24000) := by
  and_intros <;> decide +kernel

theorem witness_MeasurementCompleteRunsTheStep :
    (still.rested ∧ still.mode = .config) ∧ (calm.rested ∧ calm.bridge.awaiting = false ∧ calm.bridge.period = none) ∧
    (measured.rested ∧ measured.now + 599 < 20000 + measured.tables.traction.gapUs * 2) ∧
    (measured.mode = .run ∧ measured.bridge.awaiting = true ∧ measured.bridge.period = some { since := 20000, ticks := 8000 } ∧
      20000 + measured.tables.traction.gapUs * 2 ≤ measured.now + 600 ∧ measured.motion.state.regulating = true ∧
      (after (.measurementComplete 600 0) measured).motion.stallRun = 0) ∧
    (let t := { TractionTable.defaults with stallDuty := 1, stallEmf := 4095, stallSteps := 1, regulation := .openLoop }
     let m := { measured.motion with emf := 0, demand := 256000 }
     let step := m.regulate t { effective := 500, request := .fwd, shunting := false, brake := false }
     m.state.regulating = true ∧ step.stallRun ≠ 0 ∧ t.stallSteps ≤ step.stallRun) ∧
    ({ measured with motion := { state := .estop } }.motion.state = .estop ∧
      { measured with motion := { state := .fault } }.motion.state = .fault) := by
  and_intros <;> decide +kernel

/-- The part in RUN without a gap, tripped between the expiry and the measurement complete event. -/
def trippedEarly : State :=
  { gapless { state := .drive, period := some { since := 20000, ticks := 8000 }, awaiting := true } with
    motion := { state := .run, demand := 256000 }, control := { source := .radio, throttle := 500, effective := 500 } }

theorem witness_MeasurementCompleteRunsTheStep_bridge :
    (let s := after (.shortTrip 0 10000) trippedEarly
     s.mode = .run ∧ s.bridge.awaiting = true ∧ s.bridge.period = some { since := 20000, ticks := 8000 } ∧
     20000 + s.tables.traction.gapUs * 2 ≤ s.now + 0 ∧ s.bridge.state = .tripped ∧ s.bridge.tripHere = true ∧
     (after (.measurementComplete 0 0) s).motion.state = .run) ∧
    (∀ rest ∈ [RestMode.coast, .brake], ∀ supply ∈ [SupplyState.normal, .depleted],
      let s := { measured with motion := {}, control := {}, supply := { state := supply },
                               tables := { calm.tables with traction := { calm.tables.traction with restMode := rest } } }
      s.mode = .run ∧ s.bridge.awaiting = true ∧ (after (.measurementComplete 600 0) s).motion.state = .idle) := by
  and_intros <;> decide +kernel

/-- With gap_us 0 a trip taken before the hand-over lasts to the next expiry, and the comparator stays disarmed (R26, R28,
R37). -/
theorem test_trip_before_hand_over :
    let s := after (.measurementComplete 0 0) (after (.shortTrip 0 10000) trippedEarly)
    s.bridge.state = .tripped ∧ s.bridge.legA.high = 0 ∧ s.bridge.legB.low = false ∧ s.bridge.tripRun = 1 ∧
    (after (.shortTrip 10 12000) s).counters.traction.shortTrips = 1 ∧
    (after (.measurementComplete 0 0) (after (.tractionPeriodExpiry 8000 0) s)).bridge.state = .drive := by decide +kernel

/-- A trip before a hand-over that finds IDLE gives way to the rest mode there (assumption 58). -/
theorem test_trip_then_rest :
    let s := after (.shortTrip 0 10000) trippedEarly
    let t := after (.measurementComplete 0 0) { s with
      motion := { s.motion with demand := 256 }, control := {},
      tables := { s.tables with traction := { s.tables.traction with restMode := .brake } } }
    s.bridge.state = .tripped ∧ t.motion.state = .idle ∧ t.bridge.state = .brake := by decide +kernel

/-- The measured part with the ambient entries all of cue 2, and voice 0 as given. -/
def atmospheric (v : Voice) : State :=
  { measured with
    tables := { tuned.tables with ambient := { stopped := some 2, working := some 2, drifting := some 2 } },
    sound := { measured.sound with voices := measured.sound.voices.set 0 v } }

theorem witness_MeasurementCompleteRunsTheStep_sameEvent :
    (let s := { measured with control := { stopSeq := .braking }, motion := { state := .run, demand := 256 } }
     s.mode = .run ∧ s.bridge.awaiting = true ∧ s.bridge.period = some { since := 20000, ticks := 8000 } ∧
     20000 + s.tables.traction.gapUs * 2 ≤ s.now + 600 ∧ s.control.stopSeq = .braking ∧ s.motion.state ≠ .idle ∧
     (after (.measurementComplete 600 0) s).motion.state = .idle) ∧
    (let t := { TractionTable.defaults with stallDuty := 1, stallEmf := 4095, stallSteps := 1, regulation := .openLoop }
     let s := { measured with control := { stopSeq := .counting 2, throttle := 500, effective := 500 },
                              tables := { measured.tables with traction := t } }
     s.control.stopSeq ≠ .none ∧ s.motion.state ≠ .fault ∧ (after (.measurementComplete 600 0) s).motion.state = .fault) ∧
    (let s := { measured with motion := {}, smoke := { state := .standby } }
     s.control.stopSeq = .none ∧ s.motion.state = .idle ∧ (after (.measurementComplete 600 0) s).motion.state ≠ .idle ∧
     s.smoke.state = .standby ∧ s.bridge.accumulation.since = none) ∧
    (let s := atmospheric { state := .playing, content := some (.cue 5), cls := .scene }
     s.sound.voices[(0 : Fin 8)].isScene = true ∧ s.tables.ambient.wanted (after (.measurementComplete 600 0) s).sound.ambient = some 2) ∧
    (let z : Voice := { state := .playing, content := some (.ambient 2 .working), release := 20, multiplier := 256 }
     let s := atmospheric z
     s.supply.state ≠ .depleted ∧ z.isScene = false ∧ z.content = some (.ambient 2 .working)) ∧
    (let z : Voice := { state := .playing, content := some (.ambient 3 .stopped), release := 20, multiplier := 256 }
     z.playsAmbient (some 2) = false ∧ z.release ≠ 0 ∧ z.waiting = false) ∧
    (let s := atmospheric {}
     s.sound.voices[(0 : Fin 8)].state = .free ∧ (s.tables.sampleAt (s.tables.cueAt 2).slot).length ≠ 0 ∧
     s.store.blocks (s.tables.sampleAt (s.tables.cueAt 2).slot) = false ∧
     (s.tables.sampleAt (s.tables.cueAt 9).slot).length = 0 ∧ calm.tables.ambient.wanted .working = none) := by
  and_intros <;> decide +kernel

/-- The ambient loop starts on a FREE voice 0 with the state of its update (R111, R112). -/
theorem test_ambient_starts :
    (after (.measurementComplete 600 0) (atmospheric {})).sound.voices[(0 : Fin 8)].content = some (.ambient 2 .working) := by
  decide +kernel

theorem witness_MeasurementCompleteRunsTheStep_legs :
    (let z : Voice := { state := .playing, content := some (.ambient 3 .stopped) }
     (atmospheric z).sound.voices[(0 : Fin 8)].state = .playing ∧ z.playsAmbient (some 2) = false ∧ z.release = 0) ∧
    (let s := { measured with bridge := { measured.bridge with state := .gap, legA := { lowOff := some 20599 }, legB := { highOff := some 20599 } } }
     s.mode = .run ∧ s.bridge.awaiting = true ∧ s.bridge.period = some { since := 20000, ticks := 8000 } ∧ s.bridge.state = .gap ∧
     20000 + s.tables.traction.gapUs * 2 ≤ s.now + 600 ∧ (after (.measurementComplete 600 0) s).bridge.state = .drive ∧
     (after (.measurementComplete 600 0) s).motion.direction = .fwd ∧
     (after (.measurementComplete 600 0) s).now < 20599 + s.tables.traction.deadTenths / 5 ∧ s.bridge.legB.low = false) := by
  and_intros <;> decide +kernel

theorem witness_SetModeRunEntersRun_blocks :
    (let s := { still with smoke := { latch := some .hot } }
     s.ready ∧ s.mode = .config ∧ s.smoke.latch ≠ none ∧ s.supply.state = .normal) ∧
    (still.smoke.latch = none ∧ still.control.flags.smoke = false) ∧
    (let s := { smoking {} with mode := .config, supply := { state := .rideThrough } }
     s.ready ∧ s.mode = .config ∧ s.smoke.latch = none ∧ s.control.flags.smoke = true ∧ s.supply.state ≠ .normal) ∧
    (let s := { smoking {} with mode := .config }
     s.ready ∧ s.smoke.state = .off ∧ (after (.setModeRun 0 1) s).supply.shed = 0 ∧ s.supply.state = .normal) ∧
    (let s := { atmospheric {} with mode := .config }
     s.ready ∧ s.supply.state ≠ .depleted ∧ s.sound.voices[(0 : Fin 8)].isScene = false ∧
     s.sound.voices[(0 : Fin 8)].state = .free ∧ s.tables.ambient.wanted .stopped = some 2 ∧
     (s.tables.sampleAt (s.tables.cueAt 2).slot).length ≠ 0 ∧
     s.store.blocks (s.tables.sampleAt (s.tables.cueAt 2).slot) = false) ∧
    (let z : Voice := { state := .playing, content := some (.ambient 3 .stopped) }
     let s := { atmospheric z with mode := .config }
     s.ready ∧ s.sound.voices[(0 : Fin 8)] = z ∧ z.isScene = false ∧ z.playsAmbient (some 2) = false ∧ z.release = 0) := by
  and_intros <;> decide +kernel

/-- A burst being collected at entry to CONFIG is discarded until the gap (R73). -/
theorem test_config_discards_the_burst :
    (after (.setModeConfig 0 1 0) (tunedIn { assembler := .collecting true [9] })).radio.assembler = .discarding ∧
    (after (.setModeConfig 0 1 0) (tunedIn { assembler := .quiet })).radio.assembler = .quiet := by decide +kernel

/-- A step's inputs at an effective throttle, in the direction of travel. -/
def ask (effective : Nat) : StepInput := { effective := effective, request := .fwd, shunting := false, brake := false }

theorem witness_TargetCodeFollowsTheCurve :
    (({} : Motion).direction = (ask 0).request ∨ ({} : Motion).demand = 0) ∧ (ask 0).effective = 0 ∧
    ((63 : Nat) < 64 ∧ (ask 1023).effective = 64 * (15 : Fin 16).val + 63 ∧ (ask 1023).effective ≠ 0) ∧
    (TractionTable.defaults.curve = defaultCurve ∧ (ask 960).effective ≤ 1023 ∧ (ask 960).effective ≤ 960 ∧
      960 ≤ (ask 960).effective ∧ (ask 1023).effective = 1023) := by
  and_intros <;> decide +kernel

theorem witness_DemandMovesTowardTheGoal :
    let t := TractionTable.defaults
    let m : Motion := { state := .run, demand := 256000 }
    let z := { t with accelRate := 0, decelRate := 0 }
    (let n := m.regulate t (ask 960); m.demand < n.target * 256 ∧ risingStep t false ≠ 0) ∧
    (let n := m.regulate t (ask 1); n.target * 256 < m.demand ∧ fallingStep t false false ≠ 0) ∧
    (let n := m.regulate t (ask 250); m.demand = n.target * 256) ∧
    (let n := m.regulate z (ask 960); m.demand < n.target * 256 ∧ risingStep z false = 0) ∧
    (let n := m.regulate z (ask 1); n.target * 256 < m.demand ∧ fallingStep z false false = 0) := by
  and_intros <;> decide +kernel

theorem witness_RegulationStepFigures :
    let t := TractionTable.defaults
    let m : Motion := { state := .run, demand := 256000, emf := 900, integral := 20000 }
    ({ t with regulation := .openLoop } : TractionTable).regulation = .openLoop ∧
    (t.regulation = .closedLoop ∧ ((({} : Motion).regulate t (ask 0)).demand / 256) = 0) ∧
    ((m.regulate t (ask 500)).demand / 256 ≠ 0 ∧ m.integral ≤ 262143) ∧
    (let n := ({ m with emf := 0, integral := 262143 } : Motion).regulate t (ask 500)
     (t.heavyMargin : Int) ≤ (n.drive : Int) - ((n.demand / 256 / 4 : Nat) : Int)) ∧
    (let n := ({ m with emf := 4095, integral := 0 } : Motion).regulate t (ask 500)
     (n.drive : Int) - ((n.demand / 256 / 4 : Nat) : Int) ≤ -(t.lightMargin : Int)) ∧
    (let n := ({ m with demand := 1000 } : Motion).regulate t (ask 1)
     (n.drive : Int) - ((n.demand / 256 / 4 : Nat) : Int) < (t.heavyMargin : Int) ∧
      -(t.lightMargin : Int) < (n.drive : Int) - ((n.demand / 256 / 4 : Nat) : Int) ∧ n.falling = false) ∧
    (m.direction ≠ ({ ask 5 with request := .rev } : StepInput).request ∧ m.demand ≠ 0) ∧
    ((({} : Motion).regulate t (ask 0)).target = 0 ∧ (({} : Motion).regulate t (ask 0)).demand = 0 ∧
      (({} : Motion).regulate t (ask 0)).state = .idle) ∧
    (m.regulate t (ask 500)).target ≠ 0 ∧
    (let n := m.regulate t { ask 960 with shunting := true }; m.demand < n.target * 256 ∧ t.accelRate ≠ 0) ∧
    (let n := m.regulate t { ask 1 with shunting := true, brake := true }; n.target * 256 < m.demand ∧ t.decelRate ≠ 0) := by
  and_intros <;> decide +kernel

/-- Shunting doubles the steps, brake quadruples the falling one, and 65535 is the most (R7). -/
theorem test_momentum_factors :
    risingStep TractionTable.defaults true = 512 ∧ fallingStep TractionTable.defaults true true = 3072 ∧
    fallingStep { TractionTable.defaults with decelRate := 20000 } false true = 65535 := by decide +kernel

theorem witness_ShortTripTripsTheBridge :
    (calm.rested ∧ calm.bridge.state ≠ .drive) ∧
    (let s := { bridged { state := .drive, tripRun := 1 } with motion := { state := .run } }
     s.rested ∧ s.bridge.state = .drive ∧ s.tables.traction.shortTrip ≤ 10000 ∧ s.bridge.tripRun < 2 ∧
     9999 < s.tables.traction.shortTrip) ∧
    (let s := { bridged { state := .drive, tripRun := 2 } with motion := { state := .run } }
     s.rested ∧ s.ready ∧ 2 ≤ s.bridge.tripRun ∧ s.motion.state.regulating = true) ∧
    (drawing.rested ∧ drawing.bridge.state = .drive ∧ drawing.bridge.tripRun < 2 ∧
      drawing.bridge.accumulation.since = some 24000) ∧
    (let s := { bridged { state := .drive, tripRun := 2 } with motion := { state := .run }, control := { stopSeq := .braking } }
     s.rested ∧ 2 ≤ s.bridge.tripRun ∧ s.motion.state.regulating = true ∧ s.control.stopSeq ≠ .none) := by
  and_intros <;> decide +kernel

theorem witness_CarrierDitherAndDeadTime :
    ((3 : Nat) < 4 ∧ 4 * 255 + 3 ≤ 1023) ∧ (calm.rested ∧ calm.bridge.driving = false) ∧
    (let s := bridged { state := .drive, driving := true, carrierFrom := 20000, group := 2, active := 514 }
     s.rested ∧ s.bridge.driving = true ∧ s.bridge.carrierFrom + s.tables.traction.carrier.ticks ≤ s.now + 100 ∧ s.bridge.group < 3 ∧
     s.bridge.state = .drive ∧ s.bridge.direction = .fwd ∧ s.bridge.legA.low = false ∧ s.bridge.legA.lowOff = none) ∧
    (let s := bridged { state := .drive, driving := true, carrierFrom := 20000, group := 3 }
     s.rested ∧ 3 ≤ s.bridge.group) ∧
    (let s := bridged { legA := { highOff := some 20000, heldLow := true }, legB := { highOff := some 20000, heldLow := true } }
     s.rested ∧ s.bridge.legA.heldLow = true ∧ s.bridge.legA.high = 0 ∧ s.bridge.legB.heldLow = true ∧ s.bridge.legB.high = 0 ∧
     20000 + s.tables.traction.deadTenths / 5 ≤ s.now + 2 ∧ s.now + 1 < 20000 + s.tables.traction.deadTenths / 5) ∧
    (calm.bridge.legA.heldLow = false ∧ calm.bridge.legA.heldHigh = 0) ∧
    (drawing.rested ∧ drawing.bridge.driving = true ∧
      drawing.bridge.carrierFrom + drawing.tables.traction.carrier.ticks ≤ drawing.now + 0 ∧ drawing.bridge.accumulation.since ≠ none) ∧
    (let s := bridged { state := .drive, driving := true, carrierFrom := 20000, group := 1, active := 514, direction := .rev }
     s.rested ∧ s.bridge.group < 3 ∧ s.bridge.state = .drive ∧ s.bridge.direction = .rev ∧ s.bridge.legB.low = false ∧
     s.bridge.legB.lowOff = none) ∧
    (let s := bridged { state := .drive, driving := true, carrierFrom := 20000,
                        legA := { heldHigh := 100, lowOff := some 20000 }, legB := { heldHigh := 2, lowOff := some 20000 } }
     s.rested ∧ s.bridge.legA.heldHigh ≠ 0 ∧ s.bridge.legA.low = false ∧ s.bridge.legA.heldLow = false ∧
     s.bridge.legB.heldHigh ≠ 0 ∧ s.bridge.legB.low = false ∧ s.bridge.legB.heldLow = false ∧
     20000 + s.tables.traction.deadTenths / 5 ≤ s.now + 2 ∧ s.now + 1 < 20000 + s.tables.traction.deadTenths / 5) := by
  and_intros <;> decide +kernel

theorem witness_CarrierDitherAndDeadTime_legs :
    (∀ s ∈ [bridged { state := .drive, driving := true, carrierFrom := 20000, group := 1, active := 514, legA := { low := true }, legB := { high := 128 } },
        bridged { state := .drive, driving := true, carrierFrom := 20000, group := 3, pendingLevel := 514, legA := { lowOff := some 20099 } },
        bridged { state := .drive, driving := true, carrierFrom := 20000, group := 1, legA := { lowOff := some 20098 }, legB := { highOff := some 20099 } },
        bridged { state := .brake, driving := true, carrierFrom := 20000, legA := { high := 256 } },
        bridged { state := .coast, driving := true, carrierFrom := 20000 }],
      s.rested ∧ s.bridge.driving = true ∧ s.bridge.carrierFrom + s.tables.traction.carrier.ticks ≤ s.now + 100) ∧
    (20100 < 20100 + calm.tables.traction.deadTenths / 5 ∧ 20100 < 20099 + calm.tables.traction.deadTenths / 5 ∧
      20098 + calm.tables.traction.deadTenths / 5 ≤ 20100) := by
  and_intros <;> decide +kernel

/-- After a brake the high side waits for the dead time, and takes the first step count of the group (R33 to R35). -/
theorem test_leg_after_brake :
    let s := bridged { state := .drive, driving := true, carrierFrom := 20000, group := 3, pendingLevel := 514, legA := { low := true } }
    (after (.ditherGroupStart ⟨100, 0⟩) s).bridge.legA = { heldHigh := 129, lowOff := some 20100 } ∧
    (after (.deadTimeElapsed 2) (after (.ditherGroupStart ⟨100, 0⟩) s)).bridge.legA.high = 129 := by decide +kernel

/-- A held on-window turns on inside what is left of it, and not at all where the wait has used it up (R35, assumption 41). -/
theorem test_held_on_window :
    let s := bridged { state := .drive, driving := true, carrierFrom := 20000,
                       legA := { heldHigh := 100, lowOff := some 20000 }, legB := { heldHigh := 2, lowOff := some 20000 } }
    (after (.deadTimeElapsed 1) s).bridge.legA.high = 0 ∧ (after (.deadTimeElapsed 2) s).bridge.legA.high = 100 ∧
    (after (.deadTimeElapsed 2) s).bridge.legB.high = 0 := by decide +kernel

theorem witness_AxleEdgesAndSaturation :
    (still.rested ∧ still.mode = .config) ∧
    (rolling.rested ∧ rolling.mode = .run ∧ rolling.tables.cadence.sensorMode ≠ .synthetic ∧
      rolling.cadence.captureFrom = some 20000) ∧
    ((rolling.now + 1999 - 20000) / 20 < rolling.tables.cadence.debounce * 10 ∧
      rolling.tables.cadence.debounce * 10 ≤ (rolling.now + 2000 - 20000) / 20 ∧ (rolling.now + 2000 - 20000) / 20 < 65535) ∧
    (rolling.cadence.faultFlag = false ∧ rolling.cadence.startAwaited = false ∧
      rolling.tables.cadence.edges ≤ rolling.cadence.edges + 1) ∧
    (let s := wheeled { rolling.cadence with startAwaited := true }
     s.rested ∧ s.cadence.startAwaited = true) ∧
    (let s := wheeled { rolling.cadence with edges := 0 }
     s.rested ∧ s.cadence.edges + 1 < s.tables.cadence.edges) ∧
    (let s := wheeled { rolling.cadence with faultFlag := true, startAwaited := true }
     s.rested ∧ s.cadence.faultFlag = true ∧ s.tables.cadence.sensorMode = .auto ∧ s.cadence.startAwaited = true) ∧
    65535 ≤ (rolling.now + 1310700 - 20000) / 20 ∧ (calm.rested ∧ calm.cadence.captureFrom = none) ∧
    (∀ n ∈ [1, 2], let s := { rolling with control := { stopSeq := .counting n, dwellMs := 5000 } }
      s.rested ∧ s.control.stopSeq = .counting n) ∧
    (∀ start ∈ [false, true],
      let s := { wheeled { rolling.cadence with faultFlag := true, startAwaited := start, edges := 0 } with
        tables := { calm.tables with cadence := { calm.tables.cadence with sensorMode := .sensor } } }
      s.rested ∧ s.linkQuiet ∧ s.mode = .run ∧ s.tables.cadence.sensorMode = .sensor ∧ s.cadence.captureFrom = some 20000 ∧
      (s.cadence.startAwaited = true ∨ s.cadence.edges + 1 < s.tables.cadence.edges)) ∧
    (65535 ≤ (rolling.now + 1310700 - 20000) / 20 ∧ rolling.tables.cadence.debounce * 10 ≤ 65535 ∧
      rolling.cadence.inUse = .sensor ∧ rolling.cadence.faultFlag = false) ∧
    (calm.rested ∧ calm.mode = .run ∧ calm.tables.cadence.sensorMode ≠ .synthetic ∧ calm.cadence.captureFrom = none ∧
      calm.tables.cadence.debounce * 10 ≤ 65535 ∧ calm.cadence.startAwaited = true ∧ calm.cadence.faultFlag = false) := by
  and_intros <;> decide +kernel

/-- The rolling part in mode SENSOR with the fault flag set, one edge before a revolution of a station stop. -/
def recovering (n : Nat) : State :=
  { wheeled { rolling.cadence with faultFlag := true } with
    tables := { calm.tables with cadence := { calm.tables.cadence with sensorMode := .sensor } },
    motion := { state := .run, demand := 90000 },
    control := { stopSeq := if n = 0 then .none else .counting n, dwellMs := 5000 } }

theorem witness_AxleEdgesAndSaturation_recovery :
    ∀ n ∈ [0, 1, 2],
      let s := recovering n
      s.rested ∧ s.mode = .run ∧ s.tables.cadence.sensorMode = .sensor ∧ s.cadence.captureFrom = some 20000 ∧
      s.cadence.faultFlag = true ∧ s.cadence.startAwaited = false ∧ s.tables.cadence.edges ≤ s.cadence.edges + 1 ∧
      (s.now + 250000 - 20000) / 20 < 65535 ∧ s.tables.cadence.debounce * 10 ≤ (s.now + 250000 - 20000) / 20 ∧
      s.link.notices.length ≤ 12 := by decide +kernel

/-- A sensor fault in AUTO with a chuff of the synthetic revolution still due, the capture timer as given. -/
def wireBroken (captureFrom : Option Nat) : State :=
  wheeled { calm.cadence with
    faultFlag := true, inUse := .synthetic, startAwaited := true, captureFrom := captureFrom, revCount := 513,
    revInterval := some 2500, revTimer := some { since := 20000, ticks := 500000 }, chuffInterval := some 625,
    chuffsLeft := 1, chuffTimer := some { since := 20000, ticks := 125000 } }

/-- The same in mode SENSOR, where the sensor stays in use and a start edge may be awaited or not. -/
def wireBrokenSensor (captureFrom : Option Nat) (start : Bool) : State :=
  { wheeled { rolling.cadence with faultFlag := true, startAwaited := start, captureFrom := captureFrom } with
    tables := { calm.tables with cadence := { calm.tables.cadence with sensorMode := .sensor } } }

theorem witness_AxleEdgesAndSaturation_saturated :
    (∀ s ∈ [wireBroken none, wireBroken (some 20000), wireBrokenSensor none true, wireBrokenSensor (some 20000) false, calm],
      s.rested ∧ s.linkQuiet ∧ s.mode = .run ∧ s.tables.cadence.sensorMode ≠ .synthetic ∧
      s.tables.cadence.debounce * 10 ≤ 65535 ∧
      (s.cadence.startAwaited = true ∨ (s.cadence.captureFrom ≠ none ∧ s.cadence.inUse = .sensor))) ∧
    65535 ≤ (20000 + 1310700 - 20000) / 20 ∧ (wireBroken none).cadence.captureFrom = none ∧
    (wireBroken none).tables.cadence.sensorMode = .auto ∧ calm.cadence.faultFlag = false := by
  and_intros <;> decide +kernel

/-- The recovery edge after the default sensor timeout finds the capture timer at 65535: the sensor is in use again, the
revolution timer stops, and the last synthetic chuff stays due (R54, the worked sequence). -/
theorem test_recovery_edge :
    let t := after (.axleEdge 10000) (wireBroken none)
    t.cadence.inUse = .sensor ∧ t.cadence.revTimer = none ∧ t.cadence.startAwaited = false ∧ t.cadence.chuffsLeft = 1 ∧
    t.cadence.revInterval = some 2500 ∧ t.link.onLine = some (.notice (t.noticed (.sensor false .sensor 513))) := by
  decide +kernel

/-- In mode SENSOR an edge that finds the timer at 65535 with the flag set is a start edge of a stopped wheel (R45, R53,
R54). -/
theorem test_sensor_edge_after_saturation :
    let t := after (.axleEdge 1310700) (wireBrokenSensor (some 20000) false)
    t.cadence.faultFlag = false ∧ t.cadence.revInterval = none ∧ t.cadence.edges = 0 ∧
    t.link.onLine = some (.notice (t.noticed (.sensor false .sensor 0))) := by decide +kernel

/-- The last revolution of a station stop brakes the train (R93). -/
theorem test_stop_counts_down :
    let s (n : Nat) := { rolling with control := { stopSeq := .counting n }, motion := { state := .run, demand := 90000 } }
    (after (.axleEdge 250000) (s 2)).control.stopSeq = .counting 1 ∧
    (after (.axleEdge 250000) (s 1)).control.stopSeq = .braking := by decide +kernel

theorem witness_ChuffAndRevolutionTimers :
    (calm.rested ∧ calm.cadence.chuffTimer = none ∧ calm.cadence.revTimer = none) ∧
    (let s := wheeled { calm.cadence with chuffTimer := some { since := 20000, ticks := 125000 }, chuffInterval := some 625, chuffsLeft := 1 }
     s.rested ∧ s.now + 124999 < 20000 + 125000 ∧ 20000 + 125000 ≤ s.now + 125000 ∧ s.cadence.chuffInterval = some 625) ∧
    (spinning.rested ∧ spinning.cadence.revTimer = some { since := 0, ticks := 20000 } ∧ 0 + 20000 ≤ spinning.now + 0 ∧
      spinning.cadence.revInterval = some 2500) ∧
    (let s := wheeled { spinning.cadence with revTimer := some { since := 20000, ticks := 500000 } }
     s.rested ∧ s.now + 499999 < 20000 + 500000) := by
  and_intros <;> decide +kernel

/-- A chuff due now, at demand code 800 and the band NORMAL, whose slot (speed 1, load 1) is the one given. -/
def beating (slot : Option Nat) : State :=
  { wheeled { calm.cadence with chuffTimer := some { since := 0, ticks := 20000 }, chuffInterval := some 625, chuffsLeft := 2 } with
    tables := { tuned.tables with chuff := { ChuffTable.defaults with slots := ChuffTable.defaults.slots.set 4 slot } },
    motion := { state := .run, demand := 204800 } }

/-- The same with both chuff voices sounding, voice 2 the older. -/
def beatingBusy : State :=
  let v : Voice := { state := .playing, content := some .chuff, sample := { start := 0, length := 900, loop := none } }
  { beating (some 0) with sound := { calm.sound with voices := (calm.sound.voices.set 1 v).set 2 v, order := [2, 1] } }

theorem witness_ChuffAndRevolutionTimers_chuff :
    (∀ slot ∈ [none, some 0, some 5], let s := beating slot
      s.rested ∧ s.cadence.chuffTimer = some { since := 0, ticks := 20000 } ∧ 0 + 20000 ≤ s.now + 0 ∧
      s.cadence.chuffInterval = some 625 ∧ s.mode = .run ∧ s.supply.state ≠ .depleted ∧ s.motion.demandCode = 800 ∧
      s.motion.band = .normal ∧ s.tables.chuff.slots.getD 4 none = slot) ∧
    (beating (some 0)).tables.chuff.threshold1 ≤ 800 ∧ 800 < (beating (some 0)).tables.chuff.threshold2 ∧
    ¬(0 < { beating (some 0) with motion := {} }.motion.demandCode) ∧
    ((beating (some 5)).tables.sampleAt 5).length = 0 ∧ ((beating (some 0)).tables.sampleAt 0).length ≠ 0 ∧
    (let s := { beating (some 0) with store := { port := .store, op := some { writing with address := 68543 } } }
     s.rested ∧ s.store.blocks (s.tables.sampleAt 0) = true) ∧
    ((beating (some 0)).store.blocks ((beating (some 0)).tables.sampleAt 0) = false ∧ (beating (some 0)).sound.reserve = 2 ∧
      (beating (some 0)).sound.voices[(1 : Fin 8)].state = .free) ∧
    (beatingBusy.rested ∧ (∀ i : Fin 8, 1 ≤ i.val ∧ i.val ≤ beatingBusy.sound.reserve → beatingBusy.sound.voices[i].state ≠ .free) ∧
      beatingBusy.sound.order = [] ++ 2 :: [1]) ∧
    (let s := { beating none with smoke := { state := .standby } }
     s.rested ∧ s.smoke.state = .standby ∧ calm.smoke.state ≠ .ready ∧ calm.smoke.state ≠ .standby) ∧
    (let s := { spinning with control := { stopSeq := .counting 2 } }
     s.rested ∧ s.control.stopSeq = .counting 2) := by
  and_intros <;> decide +kernel

/-- The lowest FREE chuff voice chuffs, else the oldest; a puff of 62.5 ms · 3/4 rounded down blows 46 ms (R110, R144). -/
theorem test_chuff_event :
    (after (.chuffTimerExpiry 0) (beating (some 0))).sound.voices[(1 : Fin 8)].content = some .chuff ∧
    (after (.chuffTimerExpiry 0) beatingBusy).sound.order = [1, 2] ∧
    (after (.chuffTimerExpiry 0) { beating none with smoke := { state := .ready } }).smoke.burst
      = some { since := 20000, ticks := 92000 } := by decide +kernel

theorem witness_SensorWatchDeclaresFault :
    (calm.rested ∧ calm.cadence.watch = none) ∧
    (let s := wheeled { calm.cadence with watch := some 20000 }
     s.rested ∧ (s.now + 3999999 - 20000) / 2000 < s.tables.cadence.timeout ∧
     s.tables.cadence.timeout ≤ (s.now + 4000000 - 20000) / 2000 ∧ s.tables.cadence.sensorMode = .auto ∧ s.motion.emf = 0) ∧
    (let s := { wheeled { calm.cadence with watch := some 20000 } with motion := { emf := 40 } }
     s.rested ∧ s.motion.emf ≠ 0 ∧ s.tables.cadence.emfFloor ≤ s.motion.emf) ∧
    (let s := { wheeled { calm.cadence with watch := some 20000 } with
       tables := { calm.tables with cadence := { calm.tables.cadence with sensorMode := .sensor } } }
     s.rested ∧ s.tables.cadence.sensorMode = .sensor) := by
  and_intros <;> decide +kernel

/-- The measured part with a Cadence Record and a CADENCE table of its own. -/
def turning (c : Cadence) (mode : SensorMode) : State :=
  { measured with cadence := c, tables := { calm.tables with cadence := { calm.tables.cadence with sensorMode := mode } } }

theorem witness_SensorWatchDeclaresFault_measured :
    (∀ s ∈ [turning calm.cadence .auto, turning { calm.cadence with watch := some 77 } .auto, turning { calm.cadence with inUse := .synthetic } .synthetic,
        turning { calm.cadence with inUse := .synthetic, revInterval := some 2500 } .synthetic,
        { turning { calm.cadence with inUse := .synthetic } .synthetic with control := { stopSeq := .counting 2 } }],
      s.mode = .run ∧ s.bridge.awaiting = true ∧ s.bridge.period = some { since := 20000, ticks := 8000 } ∧
      20000 + s.tables.traction.gapUs * 2 ≤ s.now + 600 ∧ s.motion.direction = .fwd ∧ s.tables.traction.gapUs ≠ 0) ∧
    ((10941 : Int).toNat * 4095 / 28000 = 1600 ∧ (2735 : Int).toNat * 4095 / 28000 = 399 ∧
      (273 : Int).toNat * 4095 / 28000 = 39 ∧ calm.tables.cadence.faultEmf = 400 ∧ calm.tables.cadence.emfFloor = 40) ∧
    ((turning calm.cadence .auto).cadence.watch = none ∧ (turning calm.cadence .auto).cadence.faultFlag = false ∧
      (turning { calm.cadence with inUse := .synthetic } .synthetic).cadence.revInterval = none) ∧
    (after (.measurementComplete 600 10941) { turning { calm.cadence with inUse := .synthetic } .synthetic with control := { stopSeq := .counting 2 } }).motion.state
      ≠ .fault := by
  and_intros <;> decide +kernel

/-- From stopped, an EMF code of 1,600 makes a revolution of 2,500 tenths at once, a code below the floor stops it again, and a
code of at least 400 starts the watch (3.4, R51). -/
theorem test_synthetic_step :
    let s := after (.measurementComplete 600 10941) (turning { calm.cadence with inUse := .synthetic } .synthetic)
    let stopped := after (.measurementComplete 600 273) (turning { s.cadence with revCount := 9 } .synthetic)
    s.cadence.revInterval = some 2500 ∧ s.cadence.revCount = 1 ∧ s.cadence.chuffInterval = some 625 ∧ s.cadence.chuffsLeft = 3 ∧
    s.cadence.revTimer = some { since := 20600, ticks := 500000 } ∧
    stopped.cadence.revInterval = none ∧ stopped.cadence.chuffsLeft = 0 ∧ stopped.cadence.revTimer = none ∧
    stopped.cadence.revCount = 9 ∧
    (after (.measurementComplete 600 10941) (turning calm.cadence .auto)).cadence.watch = some 20600 ∧
    (after (.measurementComplete 600 2735) (turning { calm.cadence with watch := some 77 } .auto)).cadence.watch = none := by decide +kernel

/-- A voice at the 24th position of a sample that begins at the ninth byte of its line (7.2), in a state given. -/
def atBoundary (state : VoiceState) (multiplier : Nat) : Voice :=
  { state := state, content := some (.cue 2), sample := { start := 65544, length := 3000, loop := none }, position := 23,
    release := 20, gain := 200, multiplier := multiplier }

theorem witness_OutputSampleMixes :
    calm.rested ∧ calm.sound.voices[(3 : Fin 8)].state = .free ∧
    (let v := { atBoundary .playing 256 with position := 5 }
     v.state ≠ .free ∧ v.waiting = false ∧ v.nextPosition = some (6, false) ∧ v.lineOf 6 = v.line) ∧
    (let v := atBoundary .releasing 256
     v.nextPosition = some (24, false) ∧ v.lineOf 24 ≠ v.line ∧ v.state = .releasing ∧ v.multiplier - (512 + v.release - 1) / v.release ≠ 0) ∧
    (let v := atBoundary .releasing 26
     v.nextPosition = some (24, false) ∧ v.lineOf 24 ≠ v.line ∧ v.multiplier - (512 + v.release - 1) / v.release = 0) ∧
    (let v := { atBoundary .playing 256 with position := 2999 }
     v.nextPosition = none ∧ v.waiting = false) := by
  and_intros <;> decide +kernel

/-- Voice 3 at the last position of its line, with the buffers given. -/
def crossing (v : Voice) (b : VoiceBuffers) : State :=
  { calm with sound := { calm.sound with voices := calm.sound.voices.set 3 v },
              store := { calm.store with buffers := calm.store.buffers.set 3 b } }

theorem witness_OutputSampleMixes_boundary :
    (let v := { atBoundary .playing 256 with cls := .loop, sample := { start := 65544, length := 3000, loop := some { first := 0, stop := 24 } } }
     (crossing v {}).rested ∧ v.nextPosition = some (0, true) ∧ v.lineOf 0 = v.line ∧
     { v with position := 0 }.nextNeeded { v with position := 0 }.line = some { v with position := 0 }.line) ∧
    (let v := atBoundary .playing 256
     let s := crossing v { first := .full 65536 [], consuming := some .first }
     s.rested ∧ v.state ≠ .free ∧ v.waiting = false ∧ v.nextPosition = some (24, false) ∧ v.lineOf 24 ≠ v.line ∧
     s.store.buffers[(3 : Fin 8)].first.holds 65568 = false ∧ s.store.buffers[(3 : Fin 8)].second.holds 65568 = false) ∧
    (let v := atBoundary .playing 256
     let s := crossing v { first := .full 65536 [], second := .full 65568 [], consuming := some .first }
     s.rested ∧ ((s.store.buffers[(3 : Fin 8)]).get .second).holds 65568 = true ∧
     ((s.store.buffers[(3 : Fin 8)]).get .first).holds 65568 = false ∧
     { v with position := 24 }.nextNeeded 65568 = some 65600) := by
  and_intros <;> decide +kernel

theorem witness_OutputSampleMixes_positions :
    (∀ c ∈ [CueClass.oneShot, .scene], c ≠ .loop) ∧
    (let v := { atBoundary .playing 256 with position := 2999 }
     v.sample.length ≤ v.position + 1 ∧ v.sample.loop = none ∧ { v with position := 2998 }.position + 1 < v.sample.length) ∧
    (let l : LoopPoints := { first := 8, stop := 24 }
     (atBoundary .playing 256).position = 23 ∧ l.stop ≤ 23 + 1 ∧ 22 + 1 < l.stop) := by
  and_intros <;> decide +kernel

/-- A gain of 200 in SPEED at demand code 2,000 gives 131, and in LOAD with load band NORMAL 150 (6.8). -/
theorem test_gain_example :
    gainOf 200 .speed 2000 .heavy = 131 ∧ gainOf 200 .load 2000 .normal = 150 := by decide +kernel

/-- A boundary without its line is an underrun, whose demand refill is in the first buffer; one with it prefetches (R124). -/
theorem test_line_boundary :
    let dry := after (.outputSample 125) (crossing (atBoundary .playing 256) { first := .full 65536 [], consuming := some .first })
    let fed := after (.outputSample 125) (crossing (atBoundary .playing 256)
      { first := .full 65536 [], second := .full 65568 [], consuming := some .first })
    dry.counters.sound.underrun = 1 ∧ dry.store.port = .line 3 .first 65568 20125 ∧
    fed.counters.sound.underrun = 0 ∧ fed.store.port = .line 3 .first 65600 20125 := by decide +kernel

/-- Voice 0 at the last position of a scene, over the stack, the pending scene and the ambient table given. -/
def curtain (pendingScene : Option PendingScene) (stack : List Voice) (ambient : AmbientTable) : State :=
  let s := performing 7 0 .playing .restart
  { s with
    tables := { s.tables with ambient := ambient },
    sound := { s.sound with
      voices := s.sound.voices.set 0 { s.sound.voices[(0 : Fin 8)] with position := 899 },
      stack := stack, pendingScene := pendingScene, ambient := .working } }

/-- A context of cue 9 and one of the ambient loop of cue 2, saved at position 70. -/
def savedCue : Voice :=
  { state := .playing, content := some (.cue 9), cls := .scene, position := 70, gain := 200,
    sample := { start := 0, length := 900, loop := none } }

def savedLoop : Voice := { savedCue with content := some (.ambient 2 .working), cls := .loop }

/-- The ambient table that plays cue 2 in WORKING. -/
def workingLoop : AmbientTable := { AmbientTable.defaults with working := some 2 }

theorem witness_OutputSampleMixes_sceneEnd :
    (∀ s ∈ [curtain (some { cue := 1, host := true }) [savedCue] workingLoop, curtain none [savedCue] workingLoop,
        curtain none [savedLoop, savedCue] workingLoop, curtain none [] AmbientTable.defaults],
      s.rested ∧ s.sound.voices[(0 : Fin 8)].state ≠ .free ∧ s.sound.voices[(0 : Fin 8)].waiting = false ∧
      s.sound.voices[(0 : Fin 8)].isScene = true ∧ s.sound.voices[(0 : Fin 8)].nextPosition = none) ∧
    (let s := curtain (some { cue := 1, host := true }) [savedCue] workingLoop
     (s.tables.cueAt 1).cls = .scene ∧ (s.tables.sampleAt (s.tables.cueAt 1).slot).length ≠ 0 ∧
     s.store.blocks (s.tables.sampleAt (s.tables.cueAt 1).slot) = false) ∧
    calm.store.blocks savedCue.sample = false ∧
    (let s := curtain none [savedLoop, savedCue] workingLoop
     s.mode = .run ∧ s.tables.ambient.wanted s.sound.ambient = some 2 ∧ s.sound.ambient = .working ∧ s.supply.state ≠ .depleted ∧
     s.store.blocks (s.tables.sampleAt (s.tables.cueAt 2).slot) = false ∧
     (s.tables.sampleAt (s.tables.cueAt 2).slot).loop = none ∧
     savedLoop.position < (s.tables.sampleAt (s.tables.cueAt 2).slot).length) ∧
    (curtain none [] AmbientTable.defaults).tables.ambient.wanted .working = none := by
  and_intros <;> decide +kernel

/-- At the end of a scene the pending scene starts, or the top of the stack goes on where it was saved (R114). -/
theorem test_scene_end :
    (after (.outputSample 125) (curtain (some { cue := 1, host := true }) [savedCue] workingLoop)).sound.voices[(0 : Fin 8)].content
      = some (.cue 1) ∧
    (after (.outputSample 125) (curtain none [savedCue] workingLoop)).sound.voices[(0 : Fin 8)].position = 70 ∧
    (after (.outputSample 125) (curtain none [savedCue] workingLoop)).sound.stack = [] := by decide +kernel

/-- The ambient loop of the context goes on at its position, with the sample as its cue now has it (R114). -/
theorem test_ambient_resumed :
    let v := (after (.outputSample 125) (curtain none [savedLoop, savedCue] workingLoop)).sound.voices[(0 : Fin 8)]
    v.content = some (.ambient 2 .working) ∧ v.position = 70 ∧ v.sample.length = 3000 := by decide +kernel

/-- Voice 0 as given, the rest of the part as given. -/
def onVoiceZero (v : Voice) (s : State) : State :=
  { s with sound := { s.sound with voices := s.sound.voices.set 0 v } }

/-- A write that overlaps the sample of `savedCue`. -/
def busyStore : Store := { port := .store, op := some writing }

/-- A scene of the host that a HALT_CUE has released, at the last line boundary of its release. -/
def fadedScene : Voice := { atBoundary .releasing 26 with cls := .scene, host := true }

theorem witness_OutputSampleMixes_voiceZero :
    (let z : Voice := { atBoundary .releasing 26 with content := some (.ambient 2 .working), cls := .loop }
     let s := onVoiceZero z (curtain none [] workingLoop)
     s.rested ∧ s.mode = .run ∧ z.isScene = false ∧ z.state ≠ .free ∧ z.waiting = false ∧
     z.nextPosition = some (24, false) ∧ z.lineOf 24 ≠ z.line ∧ z.multiplier - (512 + z.release - 1) / z.release = 0) ∧
    (let s := onVoiceZero fadedScene (curtain none [savedCue] workingLoop)
     s.rested ∧ fadedScene.isScene = true ∧ fadedScene.nextPosition = some (24, false) ∧
     fadedScene.lineOf 24 ≠ fadedScene.line ∧
     fadedScene.multiplier - (512 + fadedScene.release - 1) / fadedScene.release = 0) ∧
    (let s := curtain (some { cue := 1, host := true }) [savedCue] workingLoop
     let t := { s with tables := { s.tables with sample := s.tables.sample.set 0 { start := 0, length := 0, loop := none } } }
     t.rested ∧ (t.tables.sampleAt (t.tables.cueAt 1).slot).length = 0 ∧ t.counters.sound.noSample ≤ 65535) ∧
    (let s := { curtain (some { cue := 1, host := true }) [] workingLoop with
                store := { port := .store, op := some { writing with address := 68543 } } }
     s.rested ∧ (s.tables.sampleAt (s.tables.cueAt 1).slot).length ≠ 0 ∧
     s.store.blocks (s.tables.sampleAt (s.tables.cueAt 1).slot) = true ∧ s.counters.sound.sampleBusy ≤ 65535) ∧
    (let s := { curtain none [savedCue, savedLoop] workingLoop with store := busyStore }
     s.rested ∧ s.store.blocks savedCue.sample = true ∧ s.store.blocks savedLoop.sample = true ∧
     s.link.notices.length + 2 ≤ 16) ∧
    (let s := { curtain none [savedLoop] workingLoop with supply := { state := .depleted } }
     s.rested ∧ s.tables.ambient.wanted s.sound.ambient = some 2 ∧ s.supply.state = .depleted) ∧
    (let s := curtain none [savedLoop] AmbientTable.defaults
     s.rested ∧ s.tables.ambient.wanted s.sound.ambient ≠ some 2) ∧
    ((curtain none [savedLoop] workingLoop).tables.sampleAt
      ((curtain none [savedLoop] workingLoop).tables.cueAt 2).slot).loop = none ∧
    { calm with mode := .config }.mode = .config := by
  and_intros <;> decide +kernel

/-- Voice 0 at the end of its release: after an ambient loop the wanted one starts again, and a scene gives way to the one it
stood over, with its CUE_DONE (R105, R108, R112, R114). -/
theorem test_voice_zero_fades_out :
    let a := after (.outputSample 125) (onVoiceZero
      { atBoundary .releasing 26 with content := some (.ambient 3 .stopped), cls := .loop } (curtain none [] workingLoop))
    let b := after (.outputSample 125) (onVoiceZero fadedScene (curtain none [savedCue] workingLoop))
    a.sound.voices[(0 : Fin 8)].content = some (.ambient 2 .working) ∧ a.outgoing = [] ∧
    b.outgoing = [.notice (b.noticed (.cueDone 2 0 .released))] ∧ b.sound.voices[(0 : Fin 8)].position = 70 := by
  decide +kernel

/-- A saved scene whose sample is being written is passed over, with SAMPLE_BUSY and REFUSED, and the loop under it goes on
(R108, R114). -/
theorem test_stack_passes_busy_scene :
    let t := after (.outputSample 125)
      { curtain none [{ savedCue with host := true }, savedLoop] workingLoop with store := busyStore }
    t.counters.sound.sampleBusy = 1 ∧ t.sound.stack = [] ∧
    t.outgoing = [Notice.cueDone 7 0 .ended, .cueDone 9 0 .refused].map (fun n => Tx.notice (t.noticed n)) ∧
    t.sound.voices[(0 : Fin 8)].content = some (.ambient 2 .working) := by decide +kernel

/-- A general voice of the host that ends at its last position, or at the end of its release, says so (R104, R105, R108). -/
theorem test_voice_ends :
    let a := after (.outputSample 125) (crossing { atBoundary .playing 256 with position := 2999, host := true } {})
    let b := after (.outputSample 125) (crossing { atBoundary .releasing 26 with host := true } {})
    a.outgoing = [.notice (a.noticed (.cueDone 2 3 .ended))] ∧
    b.outgoing = [.notice (b.noticed (.cueDone 2 3 .released))] ∧ b.counters.sound.underrun = 0 := by decide +kernel

/-- A line of voice 3 on its way. -/
def fetching (v : Voice) (b : VoiceBuffers) (line : Nat) : State :=
  { calm with sound := { calm.sound with voices := calm.sound.voices.set 3 v },
              store := { port := .line 3 .first line 20000, buffers := calm.store.buffers.set 3 b } }

/-- The first buffer of a voice, fetching a line. -/
def awaitsLine (line : Nat) : VoiceBuffers := { first := .fetching line true 20000 true }

theorem witness_LineReadDelivers :
    (calm.rested ∧ calm.store.port = .idle) ∧
    (let s := fetching { atBoundary .playing 256 with waiting := true, position := 0 } (awaitsLine 65536) 65536
     s.rested ∧ 65536 + 32 ≤ 16777216 ∧ s.now + 39 < 20000 + 40 ∧ 20000 + 40 ≤ s.now + 40 ∧
     ((s.store.buffers[(3 : Fin 8)]).get .first).expects 65536 = true ∧ s.sound.voices[(3 : Fin 8)].waiting = true) ∧
    (let s := fetching { atBoundary .playing 256 with position := 0 } (awaitsLine 65536) 65536
     s.rested ∧ s.store.buffers[(3 : Fin 8)].consuming = none ∧ s.sound.voices[(3 : Fin 8)].line = 65536) ∧
    (let s := fetching (atBoundary .playing 256) (awaitsLine 65568) 65568
     s.rested ∧ s.sound.voices[(3 : Fin 8)].waiting = false ∧ s.sound.voices[(3 : Fin 8)].line ≠ 65568) ∧
    (let s := fetching (atBoundary .playing 256) {} 65568
     s.rested ∧ ((s.store.buffers[(3 : Fin 8)]).get .first).expects 65568 = false) ∧
    (let s := fetching (atBoundary .playing 256) {} 16777216
     s.rested ∧ 16777216 < 16777216 + 32) ∧
    (let v := { atBoundary .playing 256 with position := 0 }
     v.nextNeeded 65536 = some 65568 ∧ 65568 ≠ 65536 ∧ v.nextNeeded (v.lineOf 2999) = none ∧
     (awaitsLine 65536).get (BufferName.first).other = .empty) := by
  and_intros <;> decide +kernel

theorem witness_LineReadDelivers_nextNeeded :
    (let v := atBoundary .playing 256
     v.cls ≠ .loop ∧ v.sample.loop = none ∧ (v.sample.start + (v.sample.length - 1)) / 32 * 32 = 68512 ∧ 65536 ≠ 68512) ∧
    (let v := { atBoundary .playing 256 with cls := .loop, sample := { start := 65544, length := 3000, loop := some { first := 8, stop := 24 } } }
     v.cls = .loop ∧ v.sample.loop = some { first := 8, stop := 24 } ∧ (v.sample.start + (24 - 1)) / 32 * 32 = 65536) := by
  and_intros <;> decide +kernel

/-- A line nobody expects on its way, while the buffers of voices 1 and 2 wait as given and an operation may. -/
def queueing (one two : VoiceBuffers) (op : Option StoreOp) : State :=
  { calm with store := { port := .line 3 .first 65568 20000, op := op, buffers := (calm.store.buffers.set 1 one).set 2 two } }

/-- What is asked for of both voices: voice 2 a demand refill asked for before that of voice 1. -/
def demands : State :=
  queueing { first := .fetching 0 true 900 false } { first := .fetching 96 false 100 false, second := .fetching 64 true 800 false } none

theorem witness_LineReadDelivers_arbiter :
    (let s := queueing {} {} (some writing)
     s.store.port = .line 3 .first 65568 20000 ∧ 65568 + 32 ≤ 16777216 ∧ 20000 + 40 ≤ s.now + 40 ∧
     ((s.store.buffers[(3 : Fin 8)]).get .first).expects 65568 = false ∧ s.store.op = some writing) ∧
    (demands.store.op = none ∧ demands.store.buffers[(2 : Fin 8)].get .second = .fetching 64 true 800 false ∧
      demands.store.buffers[(1 : Fin 8)].get .first = .fetching 0 true 900 false ∧ 800 < 900) ∧
    (let s := queueing { second := .fetching 0 false 900 false } { first := .fetching 96 false 100 false } none
     s.store.buffers[(1 : Fin 8)].get .second = .fetching 0 false 900 false ∧ (1 : Fin 8) ≤ 2) := by
  and_intros <;> decide +kernel

/-- The arbiter takes the operation, else the oldest demand refill, else the prefetch of the lowest voice (R127). -/
theorem test_arbiter :
    (after (.lineReadComplete 40) (queueing { first := .fetching 0 true 900 false } {} (some writing))).store.port = .store ∧
    (after (.lineReadComplete 40) demands).store.port = .line 2 .second 64 20040 ∧
    (after (.lineReadComplete 40)
      (queueing { second := .fetching 0 false 900 false } { first := .fetching 96 false 100 false } none)).store.port
      = .line 1 .second 0 20040 := by decide +kernel

/-- A read of 128 bytes at 64 that the host waits for. -/
def reading : State :=
  { stored { port := .store, op := some { kind := .read, address := 64, count := 128, data := [], begun := some 20000, clamped := false } } with
    link := { inService := some { tag := 9, request := .storeRead 64 128, stage := .working } } }

theorem witness_StorePollsAndReads :
    (calm.rested ∧ calm.store.port ≠ .store) ∧
    (let s := stored { port := .store, op := some writing }
     s.rested ∧ Memory.wf s.flash = true ∧ s.linkQuiet ∧ writing.kind ≠ .read ∧ writing.begun = some 20000 ∧
     s.now + 3999999 < 20000 + 4000000 ∧ 20000 + 4000000 ≤ s.now + 4000000 ∧ writing.data[1]? = some 2#8 ∧
     (18 < writing.address ∨ writing.address + writing.data.length ≤ 18)) ∧
    (let s := stored { port := .store, op := some { writing with kind := .erase, address := 4096, count := 4096 } }
     s.rested ∧ ({ writing with kind := .erase } : StoreOp).kind = .erase) ∧
    (reading.rested ∧ reading.link.waiting = none ∧ reading.link.slot = none ∧ reading.link.onLine = none ∧
      reading.now + 99 < 20000 + 20 + (128 * 5 + 7) / 8 ∧ 20000 + 20 + (128 * 5 + 7) / 8 ≤ reading.now + 100) ∧
    (let s := { reading with link := { reading.link with onLine := some noticeOn } }
     s.rested ∧ s.link.onLine ≠ none) ∧
    (let s := stored {}
     s.rested ∧ s.store.port = .waiting ∧ s.store.op = none ∧ s.store.nextRequest = none) ∧
    (let s := stored { buffers := calm.store.buffers.set 3 { first := .fetching 64 true 5 false } }
     s.rested ∧ s.store.nextRequest = some { voice := 3, buffer := .first, line := 64, demand := true, asked := 5 }) := by
  and_intros <;> decide +kernel

theorem witness_TemperatureSampleAndFanBurst :
    (let s := smoking { state := .ready }
     s.rested ∧ s.mode = .run ∧ s.control.flags.smoke = true ∧ s.smoke.state = .ready ∧ s.linkQuiet) ∧
    ¬((-20 : Int) ≤ -20001 / 1000 ∧ (-20001 : Int) / 1000 ≤ 300) ∧
    ((250999 : Int) / 1000 = 250 ∧ (calm.tables.smoke.maxTemp : Int) ≤ 250) ∧
    (let s := smoking { state := .warming, window := some { start := 180, taken := 9 } }
     s.rested ∧ 206 < (s.tables.smoke.maxTemp : Int) ∧ 10 ≤ 9 + 1 ∧ (s.tables.smoke.dryRise : Int) < 206 - 180) ∧
    (let s := smoking { state := .warming, window := some { start := 180, taken := 8 } }
     s.rested ∧ (8 + 1 < 10 ∨ (206 : Int) - 180 ≤ s.tables.smoke.dryRise)) ∧
    (calm.rested ∧ calm.control.flags.smoke = false) ∧
    (let s := { calm with smoke := { state := .ready, burst := some { since := 20000, ticks := 92000 } } }
     s.rested ∧ s.now + 91999 < 20000 + 92000 ∧ 20000 + 92000 ≤ s.now + 92000) ∧ calm.smoke.burst = none := by
  and_intros <;> decide +kernel

/-- A part whose function 1 is on and smoke enabled, with the Smoke Record given. -/
def enabledSmoke (k : Smoke) : State :=
  { steered { functions := calm.control.functions.set 1 { on := true }, flags := { smoke := true } } with smoke := k }

theorem witness_TemperatureSampleAndFanBurst_enable :
    (let s := enabledSmoke { state := .warming }
     s.ready ∧ s.mode = .run ∧ (1 : Fin 32).val = (1#8 : Byte).toNat ∧ s.smoke.latch = none ∧ s.control.flags.smoke = true ∧
     (deriveFlags (s.control.functions.set 1 { on := false, writer := .host }) s.tables.funcMap).smoke = false) ∧
    (calm.ready ∧ calm.smoke.latch = none ∧ calm.control.flags.smoke = false ∧ calm.smoke.state.regulated = false ∧
      calm.smoke.burst = none ∧ calm.supply.shed = 0 ∧ calm.supply.state = .normal ∧
      (deriveFlags (calm.control.functions.set 1 { on := true, writer := .host }) calm.tables.funcMap).smoke = true) ∧
    (let s := supplied { shed := 2 }
     s.ready ∧ s.control.flags.smoke = false ∧ s.supply.shed ≠ 0) ∧
    (let s := enabledSmoke { state := .fault, latch := some .dry }
     s.ready ∧ s.smoke.latch ≠ none ∧ s.control.flags.smoke = true) ∧
    (∀ k ∈ [({ state := .fault, latch := some .dry, offSeen := true, temperature := some 59 } : Smoke),
        { state := .fault, latch := some .dry, offSeen := true, temperature := some 60 },
        { state := .fault, latch := some .dry }],
      let s := { calm with smoke := k }
      s.ready ∧ s.smoke.latch ≠ none ∧ s.control.flags.smoke = false) := by
  and_intros <;> decide +kernel

/-- Off and on again below 60 °C clears a latched smoke fault; at 60 °C it does not (R143). -/
theorem test_smoke_enable_cycle :
    let s (t : Int) := { calm with smoke := { state := .fault, latch := some .dry, offSeen := true, temperature := some t } }
    (after (.setFunction 0 1 1 1) (s 59)).smoke.latch = none ∧ (after (.setFunction 0 1 1 1) (s 60)).smoke.latch = some .dry ∧
    (after (.setFunction 0 1 1 1) (s 60)).smoke.offSeen = false := by decide +kernel

theorem witness_LightUpdateMovesLamps :
    (0xACE1#16 ≠ 0) ∧ (still.rested ∧ still.mode = .config) ∧ (calm.rested ∧ calm.mode = .run ∧ (calm.light.count + 1) % 5 ≠ 0) ∧
    (let s := { calm with light := { calm.light with count := 4 } }
     s.rested ∧ (s.light.count + 1) % 5 = 0 ∧ s.tables.lights.channels[(2 : Fin 8)].mode = .firebox ∧
     s.tables.lights.channels[(3 : Fin 8)].mode ≠ .firebox ∧ s.tables.lights.channels[(2 : Fin 8)].bound = none ∧
     s.supply.state ≠ .depleted) := by
  and_intros <;> decide +kernel

theorem witness_StrobePhaseRule :
    (∀ c ∈ [Instr.powerOn 3, .pinReset 3, .brownout 3 4999 5500, .restartTakesEffect 3, .transmitFrameEnd 3],
      c = .powerOn 3 ∨ c = .pinReset 3 ∨ (c = .brownout 3 4999 5500 ∧ 4999 < 5000 ∧ 5500 ≤ 5500) ∨
        ((c = .restartTakesEffect 3 ∨ c = .transmitFrameEnd 3) ∧ leaving.link.restartReply = true)) ∧
    (calm.rested ∧ still.rested ∧ calm.light.strobe.since + calm.light.strobe.ticks ≤ calm.now + 100000 ∧
      calm.now + 99999 < calm.light.strobe.since + calm.light.strobe.ticks) ∧
    exec (.ping 3 9) calm = .next (after (.ping 3 9) calm) ∧
    (calm.mode = .run ∧ calm.supply.state ≠ .depleted ∧ calm.lampRequested 4 = true) :=
  ⟨by decide +kernel, by decide +kernel, rfl, by decide +kernel⟩

/-- A horn sounding on voice 3. -/
def hooting (d : DitchPhase) : State :=
  { calm with sound := { calm.sound with voices := calm.sound.voices.set 3 { atBoundary .playing 256 with horn := true } },
              light := { calm.light with ditch := d } }

theorem witness_DitchPhaseRule :
    (calm.mode = .run ∧ ¬∃ i : Fin 8, calm.sound.voices[i].state ≠ .free ∧ calm.sound.voices[i].horn = true) ∧
    ((hooting .steady).mode = .run ∧
      ∃ i : Fin 8, (hooting .steady).sound.voices[i].state ≠ .free ∧ (hooting .steady).sound.voices[i].horn = true) ∧
    ((hooting (.a 1)).light.ditch = .a 1 ∧ (hooting (.b 25)).light.ditch = .b 25) ∧
    ((hooting (.a 25)).sound.hornActive = true ∧ 1 ≤ 25 ∧ 25 ≤ 25) ∧
    (still.mode = .config ∧ still.light.ditch = .steady ∧ exec (.ping 3 9) still = .next (after (.ping 3 9) still) ∧
      (after (.ping 3 9) still).mode = .config) :=
  ⟨by decide +kernel, by decide +kernel, by decide +kernel, by decide +kernel, rfl, by decide +kernel, rfl, rfl⟩

theorem witness_SupplySampleActs :
    (calm.rested ∧ still.rested ∧ still.supply.state = .normal) ∧
    (still.tables.supply.rideThreshold ≤ min 400 ((12000 : Int).natAbs / 100) ∧
      min 400 ((-11999 : Int).natAbs / 100) < still.tables.supply.rideThreshold ∧ still.supply.lowRun = 0) ∧
    (let s := supplied { lowRun := 1 }
     s.rested ∧ s.linkQuiet ∧ 1 ≤ s.supply.lowRun ∧ s.supply.state = .normal) ∧
    (let s := supplied { state := .rideThrough, elapsed := 1499, shed := 2 }
     s.rested ∧ s.tables.supply.rideThreshold + 10 ≤ min 400 ((13000 : Int).natAbs / 100) ∧
     min 400 ((12999 : Int).natAbs / 100) < s.tables.supply.rideThreshold + 10 ∧
     s.tables.supply.rideLimit ≤ min 5000 (s.supply.elapsed + 1) ∧ min 400 (6999 / 100) < s.tables.supply.railMinimum) ∧
    (let s := supplied { state := .rideThrough, elapsed := 1498 }
     min 5000 (s.supply.elapsed + 1) < s.tables.supply.rideLimit ∧ s.tables.supply.railMinimum ≤ min 400 (7000 / 100)) ∧
    (let s := supplied { state := .depleted, recoveryRun := 49 }
     s.rested ∧ 49 ≤ s.supply.recoveryRun) ∧
    (let s := supplied { state := .depleted, recoveryRun := 48 }
     s.rested ∧ s.supply.recoveryRun < 49) ∧
    (let s := supplied { overRun := 18 }
     s.rested ∧ s.mode = .run ∧ s.tables.supply.budget < min 20000 (8001000 / 1000) ∧ s.supply.overRun + 1 < 20) ∧
    (let s := supplied { overRun := 19, shed := 3 }
     20 ≤ s.supply.overRun + 1 ∧ s.supply.shed ≤ 3) ∧
    (let s := supplied { underRun := 498 }
     min 20000 (5999000 / 1000) ≤ s.tables.supply.budget ∧ min 20000 (5999000 / 1000) * 4 < s.tables.supply.budget * 3 ∧
     s.supply.underRun + 1 < 500) ∧
    500 ≤ (supplied { underRun := 499 }).supply.underRun + 1 ∧
    (min 20000 (8000000 / 1000) ≤ calm.tables.supply.budget ∧ calm.tables.supply.budget * 3 ≤ min 20000 (6000000 / 1000) * 4) := by
  and_intros <;> decide +kernel

theorem witness_SupplySampleActs_run :
    (calm.rested ∧ calm.mode = .run ∧ calm.supply.lowRun = 0 ∧ calm.supply.state = .normal ∧
      min 400 ((-11999 : Int).natAbs / 100) < calm.tables.supply.rideThreshold) ∧
    (let s := supplied { state := .rideThrough, elapsed := 1498, shed := 2 }
     s.rested ∧ s.mode = .run ∧ min 5000 (s.supply.elapsed + 1) < s.tables.supply.rideLimit ∧
     s.tables.supply.railMinimum ≤ min 400 (7000 / 100) ∧ ¬(2 < s.supply.shed)) ∧
    (let s := supplied { state := .rideThrough, shed := 3, underRun := 499 }
     s.rested ∧ 500 ≤ s.supply.underRun + 1 ∧ 2 < s.supply.shed ∧ min 20000 (5999000 / 1000) * 4 < s.tables.supply.budget * 3) ∧
    (let s := supplied { state := .depleted, recoveryRun := 48, shed := 2, overRun := 19 }
     s.rested ∧ s.supply.recoveryRun < 49 ∧ 20 ≤ s.supply.overRun + 1 ∧ s.supply.shed ≤ 3 ∧
     s.tables.supply.budget < min 20000 (8001000 / 1000)) ∧
    (let s := { smoking { state := .ready } with supply := { overRun := 19 } }
     s.rested ∧ s.mode = .run ∧ s.smoke.latch = none ∧ s.control.flags.smoke = true ∧
     (after (.supplySample 0 12000 12000 8001000) s).supply.shed ≠ 0) ∧
    (let s := { smoking { state := .shed } with supply := { shed := 1, underRun := 499 } }
     s.rested ∧ s.smoke.state = .shed ∧ s.smoke.latch = none ∧ s.control.flags.smoke = true ∧
     (after (.supplySample 0 12000 12000 5999000) s).supply.shed = 0 ∧
     (after (.supplySample 0 12000 12000 5999000) s).supply.state = .normal) := by
  and_intros <;> decide +kernel

theorem witness_SupplySampleActs_notices :
    (let s := supplied { overRun := 19 }
     s.rested ∧ s.link.notices.length < 16 ∧ 20 ≤ s.supply.overRun + 1 ∧ s.supply.shed < min 3 (s.supply.shed + 1)) ∧
    (let s := supplied { underRun := 499, shed := 1 }
     s.rested ∧ s.link.notices.length < 16 ∧ s.supply.shed - 1 < s.supply.shed) ∧
    (let s := { supplied { state := .depleted, recoveryRun := 49 } with tables := (atmospheric {}).tables }
     s.rested ∧ s.mode = .run ∧ 49 ≤ s.supply.recoveryRun ∧ s.sound.voices[(0 : Fin 8)].state = .free ∧
     s.tables.ambient.wanted s.sound.ambient = some 2) ∧
    (let s := supplied { state := .rideThrough, elapsed := 1499, shed := 2 }
     s.rested ∧ s.mode = .run ∧ s.tables.supply.rideLimit ≤ min 5000 (s.supply.elapsed + 1) ∧
     (after (.supplySample 0 0 12000 100000) s).link.lost = false) ∧
    (let s := supplied { state := .rideThrough, shed := 2 }
     s.rested ∧ min 400 (6999 / 100) < s.tables.supply.railMinimum ∧ ¬(s.tables.supply.rideLimit ≤ min 5000 (s.supply.elapsed + 1)) ∧
     (after (.supplySample 0 0 6999 100000) s).link.lost = false) := by
  and_intros <;> decide +kernel

/-- The host's cue 5 on voice 3, another on voice 4 that a function started, a pending scene and a stack of the host. -/
def hosting (u : Supply) (q : StopSequence) : State :=
  let v (n : Nat) (host : Bool) : Voice := { state := .playing, content := some (.cue n), host := host }
  { supplied u with
    motion := { state := .run, demand := 256000 }, control := { stopSeq := q, resume := 600, dwellMs := 5000 },
    bridge := { state := .drive },
    sound := { calm.sound with
      voices := (calm.sound.voices.set 3 (v 5 true)).set 4 (v 6 false), order := [3, 4],
      pendingScene := some { cue := 8, host := true }, stack := [v 9 true, v 10 false] } }

theorem witness_SupplySampleActs_cut :
    (∀ q ∈ [StopSequence.none, .braking],
      let s := hosting { state := .rideThrough, elapsed := 1499 } q
      s.rested ∧ s.link.notices.length + 4 < 16 ∧ s.tables.supply.rideLimit ≤ min 5000 (s.supply.elapsed + 1) ∧
      s.motion.state.regulating = true) ∧
    (let s := { hosting { state := .rideThrough, elapsed := 1499 } .none with motion := { state := .fault } }
     s.rested ∧ s.motion.state.regulating = false) ∧
    (let s := hosting { lowRun := 1 } .none
     s.rested ∧ s.supply.state = .normal ∧ s.motion.state = .run ∧ s.bridge.state = .drive ∧ s.bridge.tripHere = false) ∧
    (let s := hosting { state := .rideThrough } .none
     s.rested ∧ s.motion.state = .run ∧ s.bridge.state = .drive) ∧
    (let s := { supplied { state := .depleted, recoveryRun := 49 } with bridge := { state := .coast, rest := .brake } }
     s.rested ∧ s.motion.state = .idle ∧ s.bridge.rest = .brake ∧ s.bridge.state = .coast) := by
  and_intros <;> decide +kernel

/-- Without a gap, an expiry has ended a trip and its measurement complete event is yet to come. -/
def betweenTwo (u : Supply) : State :=
  after (.tractionPeriodExpiry 8000 0) { after (.shortTrip 0 10000) trippedEarly with supply := u }

theorem witness_SupplySampleActs_coast :
    ∀ u ∈ [({ lowRun := 1 } : Supply), { state := .rideThrough, elapsed := 10 }],
      (betweenTwo u).rested ∧ (betweenTwo u).supply.state = u.state ∧ (betweenTwo u).motion.state = .run ∧
      (betweenTwo u).bridge.state = .coast ∧ (betweenTwo u).bridge.tripHere = false := by decide +kernel

/-- A change of supply state does not begin DRIVE before the hand-over (R28, R31, assumption 57). -/
theorem test_supply_change_before_hand_over :
    let s := betweenTwo { lowRun := 1 }
    let t := after (.supplySample 0 0 12000 0) s
    t.supply.state = .rideThrough ∧ t.bridge.state = .coast ∧
    (after (.measurementComplete 0 0) t).bridge.state = .drive := by decide +kernel

/-- Depletion reports what it cuts of the host's: voice 3, the pending scene, the stack; then itself (R108, R117, R166). -/
theorem test_depletion_reports_cuts :
    let t := after (.supplySample 0 0 12000 100000) (hosting { state := .rideThrough, elapsed := 1499, shed := 2 } .braking)
    t.outgoing = [.stopSequence { code := 3, value := 5000 } 600 none, .cueDone 5 3 .cut, .cueDone 8 0 .cut, .cueDone 9 0 .cut,
      Notice.supply .depleted 2 (some 0) 0 120 100 .rideLimit].map (fun n => Tx.notice (t.noticed n)) ∧
    t.bridge.state = .coast ∧ t.sound.stack = [] := by decide +kernel

/-- At DROPOUT the drive goes on as it stands (R158). -/
theorem test_dropout_drives_on :
    let s := hosting { lowRun := 1 } .none
    (after (.supplySample 40 0 12000 100000) s).supply.state = .rideThrough ∧
    (after (.supplySample 40 0 12000 100000) s).bridge = s.bridge := by decide +kernel

/-- Entry to CONFIG discards the host's cues with no CUE_DONE: one MODE notice tells it (R108, R118). -/
theorem test_config_discards_silently :
    let t := after (.setModeConfig 0 9 0) { hosting {} .none with motion := {} }
    t.link.notices = [t.noticed (.mode .config)] ∧ t.sound.stack = [] ∧ t.sound.voices[(3 : Fin 8)] = {} := by decide +kernel

/-- A return to NORMAL at the sample that ends an over run reports RECOVERED with the level it raises, and clears the run
(R161, R166, assumption 29). -/
theorem test_recovered_with_level :
    let t := after (.supplySample 0 14000 12000 9000000) (supplied { state := .rideThrough, shed := 2, overRun := 19, cap := some 4 })
    t.supply.shed = 3 ∧ t.supply.overRun = 0 ∧
    t.link.onLine = some (.notice (t.noticed (.supply .normal 3 none 140 120 9000 .recovered))) := by decide +kernel

/-- In a ride-through the shed level never falls below 2 (R161). -/
theorem test_shed_floor :
    (after (.supplySample 0 0 12000 5999000) (supplied { state := .rideThrough, shed := 2, underRun := 499 })).supply.shed = 2 ∧
    (after (.supplySample 0 0 12000 5999000) (supplied { state := .rideThrough, shed := 3, underRun := 499 })).supply.shed = 2 := by
  decide +kernel

/-- The part with a STOP waiting. -/
def pressed : State := { calm with pending := [.stop 4 9] }

theorem witness_PartComesToRest : pressed.rested ∧ ∃ t, step pressed = .next t := ⟨by decide +kernel, _, rfl⟩

theorem witness_LegsNeverShootThrough : pressed.legsExclusive ∧ ∃ t, step pressed = .next t :=
  ⟨⟨Or.inl rfl, Or.inl rfl⟩, _, rfl⟩

theorem witness_MirrorsAndThrottleAreKept : pressed.mirrored ∧ pressed.effectiveR77 ∧ ∃ t, step pressed = .next t :=
  ⟨⟨rfl, rfl⟩, by unfold State.effectiveR77; decide +kernel, _, rfl⟩

theorem witness_MirrorsAndThrottleAreKept_figure :
    (∀ q ∈ [StopSequence.braking, .dwell { since := 0, ticks := 2000 }], ({ stopSeq := q } : Control).stopSeq = q) ∧
    (let c : Control := { source := .radio, throttle := 700, flags := { shunting := true }, caps := [{ beacon := 3, cap := 300 }],
                          supplyCap := some 400, stopSeq := .counting 2 }
     c.estop = false ∧ c.stopSeq = .counting 2 ∧ c.source ≠ .none ∧ c.flags.shunting = true) ∧
    (let c : Control := { held := some 90 }
     c.source = .none ∧ c.held.getD 0 = 90) := by
  and_intros <;> decide +kernel

/-- A throttle of 700 with shunting active and a zone cap of 300 gives min(350, 300) (R77). -/
theorem test_effective_throttle :
    ({ source := .radio, throttle := 700, flags := { shunting := true }, caps := [{ beacon := 3, cap := 300 }] } : Control).effectiveThrottle
      = 300 ∧ ({ source := .host, throttle := 1023, flags := { shunting := true } } : Control).effectiveThrottle = 511 := by decide +kernel

/-- Every table at its default is in its ranges (R23 and the defaults of the other tables). -/
theorem default_tables_inRange : Tables.defaults.inRange := by
  refine ⟨by decide +kernel, by decide +kernel, by decide +kernel, ?_, ?_, ?_, ?_, ⟨?_, by decide⟩,
    ⟨optionInRange_of (by decide), optionInRange_of (by decide), optionInRange_of (by decide)⟩, by decide +kernel,
    ⟨?_, by decide +kernel, by decide +kernel⟩, by decide +kernel, by decide⟩
  · have h : ∀ f : Fin 32, ((FuncEntry.defaultFor f.val).cue.getD 0) ≤ 63 := by decide +kernel
    intro e he
    obtain ⟨f, rfl⟩ := Vector.mem_ofFn.mp (by simpa [Tables.defaults] using he)
    exact optionInRange_of (h f)
  · decide +kernel
  · intro e he
    have : e = SampleEntry.empty := by simpa [Tables.defaults] using he
    subst this
    exact ⟨by decide, by decide, fun l h => by cases h⟩
  · decide +kernel
  · intro o ho
    have h : o = none := by
      have := (List.mem_replicate (n := 12) (a := (none : Option Nat))).mp ho
      exact this.2
    subst h
    exact optionInRange_of (by decide)
  · have h : ∀ k : Fin 8, (LampEntry.defaultFor k.val).brightness ≤ 255 ∧ (LampEntry.defaultFor k.val).fade ≤ 2550 ∧
        ((LampEntry.defaultFor k.val).bound.getD 0) ≤ 31 := by decide +kernel
    intro e he
    obtain ⟨k, rfl⟩ : ∃ k : Fin 8, e = LampEntry.defaultFor k.val := by
      have := Vector.mem_ofFn.mp (by simpa [Tables.defaults, LightsTable.defaults] using he)
      obtain ⟨k, hk⟩ := this
      exact ⟨k, hk.symm⟩
    exact ⟨(h k).1, optionInRange_of (h k).2.2, (h k).2.1⟩

theorem witness_TablesStayInRange : ({ State.reset with pending := [.stop 4 9] } : State).tables.inRange ∧
    ∃ t, step { State.reset with pending := [.stop 4 9] } = .next t := ⟨default_tables_inRange, _, rfl⟩

theorem witness_ContainersStayWellFormed : pressed.flashWf ∧ pressed.withinCapacity ∧ ∃ t, step pressed = .next t :=
  ⟨rfl, ⟨by decide, by decide, by decide, by decide⟩, _, rfl⟩

theorem witness_SampleInterlockIsKept :
    ({ pressed with store := { port := .store, op := some writing } } : State).interlocked ∧
    ∃ t, step { pressed with store := { port := .store, op := some writing } } = .next t := by
  refine ⟨?_, _, rfl⟩
  have free : ∀ i : Fin 8, pressed.sound.voices[i].active = false := by decide +kernel
  intro op _ _ i hi
  have := (free i).symm.trans hi
  contradiction

/-- Smoke in READY with its heater on. -/
def heated : State := { smoking { state := .ready, heater := true } with pending := [.stop 4 9] }

theorem witness_HeaterStaysSafe : heated.heaterSafe ∧ heated.smoke.heater = true ∧ ∃ t, step heated = .next t :=
  ⟨⟨fun _ => rfl, fun _ => ⟨rfl, rfl, rfl, rfl, rfl⟩⟩, rfl, _, rfl⟩

end Sys2Proof.Tests
end

/-! PROOFS. The target code of the speed curve (R4): a reversal in progress sets it to 0, and otherwise it is the
interpolation between the two neighbouring points of the curve. -/

namespace Sys2Proof.Machine

/-! ## The truncated share of a difference -/

/-- The share of a rise lies between nothing and the whole rise. -/
theorem tdiv_share_of_nonneg {d f : Int} (hd : 0 ≤ d) (h0 : 0 ≤ f) (h1 : f ≤ 64) :
    0 ≤ (d * f).tdiv 64 ∧ (d * f).tdiv 64 ≤ d := by
  have low : 0 ≤ d * f := Int.mul_nonneg hd h0
  have high : d * f ≤ d * 64 := Int.mul_le_mul_of_nonneg_left h1 hd
  rw [Int.tdiv_eq_ediv_of_nonneg low]
  omega

/-- The share of a fall, which is the negated share of the rise the other way: the quotient truncates toward zero. -/
theorem tdiv_share_of_nonpos {d f : Int} (hd : d ≤ 0) (h0 : 0 ≤ f) (h1 : f ≤ 64) :
    d ≤ (d * f).tdiv 64 ∧ (d * f).tdiv 64 ≤ 0 := by
  have mirrored : (-d * f).tdiv 64 = -(d * f).tdiv 64 := by rw [Int.neg_mul, Int.neg_tdiv]
  have rise := tdiv_share_of_nonneg (Int.neg_nonneg_of_nonpos hd) h0 h1
  omega

/-- An interpolation lies between the two points it is taken from. -/
theorem interpolation_between (v0 v1 : Nat) {f : Nat} (hf : f < 64) :
    ((min v0 v1 : Nat) : Int) ≤ (v0 : Int) + Int.tdiv (((v1 : Int) - v0) * f) 64 ∧
      (v0 : Int) + Int.tdiv (((v1 : Int) - v0) * f) 64 ≤ ((max v0 v1 : Nat) : Int) := by
  have h0 : (0 : Int) ≤ f := Int.natCast_nonneg f
  have h1 : (f : Int) ≤ 64 := by omega
  rcases Nat.le_total v0 v1 with rising | falling
  · have share := tdiv_share_of_nonneg (d := (v1 : Int) - v0) (by omega) h0 h1
    omega
  · have share := tdiv_share_of_nonpos (d := (v1 : Int) - v0) (by omega) h0 h1
    omega

/-! ## The curve's target -/

/-- Every point the model reads stands on the curve, so its value for a missing point plays no part. -/
theorem curve_getD (curve : Vector Nat 17) (k : Fin 17) : curve.getD k.val 0 = curve[k] :=
  (Array.getElem_eq_getD 0).symm

@[simp] theorem curveTarget_zero (curve : Vector Nat 17) : curveTarget curve 0 = 0 := rfl

/-- R4 between the points k and k + 1 of the curve; an interpolation of two levels is no negative number, so the model
cuts nothing off. -/
theorem curveTarget_of_segment (curve : Vector Nat 17) (k : Fin 16) {f : Nat} (hf : f < 64)
    (hT : 64 * k.val + f ≠ 0) :
    (curveTarget curve (64 * k.val + f) : Int) =
      (curve[k.castSucc] : Int) + Int.tdiv (((curve[k.succ] : Int) - curve[k.castSucc]) * f) 64 := by
  have quotient : (64 * k.val + f) / 64 = k.val := by omega
  have remainder : (64 * k.val + f) % 64 = f := by omega
  have low : curve.getD k.val 0 = curve[k.castSucc] := curve_getD curve k.castSucc
  have high : curve.getD (k.val + 1) 0 = curve[k.succ] := curve_getD curve k.succ
  have between := interpolation_between curve[k.castSucc] curve[k.succ] hf
  simp only [curveTarget, hT, if_false, quotient, remainder, low, high]
  omega

/-- The throttle's place on the curve: its segment and its distance from the segment's first point. -/
theorem exists_segment {T : Nat} (hT : T ≤ 1023) : ∃ (k : Fin 16) (f : Nat), f < 64 ∧ T = 64 * k.val + f :=
  ⟨⟨T / 64, by omega⟩, T % 64, Nat.mod_lt T (by decide), (Nat.div_add_mod T 64).symm⟩

/-! ## The default curve -/

theorem defaultCurve_getElem (k : Fin 17) : defaultCurve[k] = if k.val = 16 then 4095 else 256 * k.val := by
  simp [defaultCurve]

/-- The default curve in closed form: 4 codes for each level of the throttle up to 960, and from there the last segment,
which rises by 255 codes over 64 levels. -/
theorem curveTarget_defaultCurve {T : Nat} (hT : T ≤ 1023) :
    curveTarget defaultCurve T = if T ≤ 960 then 4 * T else 3840 + 255 * (T - 960) / 64 := by
  obtain ⟨k, f, hf, rfl⟩ := exists_segment hT
  by_cases zero : 64 * k.val + f = 0
  · simp [zero]
  have target := curveTarget_of_segment defaultCurve k hf zero
  have first : defaultCurve[k.castSucc] = 256 * k.val :=
    (defaultCurve_getElem k.castSucc).trans (if_neg (Nat.ne_of_lt k.isLt))
  by_cases last : k.val = 15
  · have second : defaultCurve[k.succ] = 4095 :=
      (defaultCurve_getElem k.succ).trans (if_pos (congrArg Nat.succ last))
    have difference : ((4095 : Nat) : Int) - (256 * k.val : Nat) = 255 := by omega
    rw [first, second, difference, Int.tdiv_eq_ediv_of_nonneg (by omega)] at target
    split <;> omega
  · have second : defaultCurve[k.succ] = 256 * (k.val + 1) :=
      (defaultCurve_getElem k.succ).trans (if_neg (fun h => last (Nat.succ.inj h)))
    have difference : ((256 * (k.val + 1) : Nat) : Int) - (256 * k.val : Nat) = 256 := by omega
    rw [first, second, difference, Int.tdiv_eq_ediv_of_nonneg (by omega)] at target
    split <;> omega

/-- The default curve gives a lower target for a lower throttle. -/
theorem curveTarget_defaultCurve_lt {T U : Nat} (h : T < U) (hU : U ≤ 1023) :
    curveTarget defaultCurve T < curveTarget defaultCurve U := by
  rw [curveTarget_defaultCurve (Nat.le_of_lt (Nat.lt_of_lt_of_le h hU)), curveTarget_defaultCurve hU]
  split <;> split <;> omega

/-! ## The target of a regulation step -/

/-- The request is followed where the direction is the one asked for or the demand is 0 (R4). -/
theorem regulate_target_of_followed {m : Motion} {i : StepInput} (t : TractionTable)
    (h : m.direction = i.request ∨ m.demand = 0) : (m.regulate t i).target = curveTarget t.curve i.effective :=
  if_neg (fun reversal => h.elim reversal.1 reversal.2)

/-- A reversal in progress brings the locomotive to a stand first (R4). -/
theorem regulate_target_of_reversal {m : Motion} {i : StepInput} (t : TractionTable)
    (h : ¬(m.direction = i.request ∨ m.demand = 0)) : (m.regulate t i).target = 0 :=
  if_pos (not_or.mp h)

theorem regulate_target_of_standing (m : Motion) (t : TractionTable) (i : StepInput) :
    (m.regulate t { i with effective := 0 }).target = 0 := by
  by_cases followed : m.direction = i.request ∨ m.demand = 0
  · exact regulate_target_of_followed (i := { i with effective := 0 }) t followed
  · exact regulate_target_of_reversal (i := { i with effective := 0 }) t followed

/-- The throttle enters the regulation step by the target alone. -/
theorem regulate_eq_of_target_eq {m : Motion} {t : TractionTable} {i : StepInput} {effective : Nat}
    (h : (m.regulate t i).target = (m.regulate t { i with effective := effective }).target) :
    m.regulate t i = m.regulate t { i with effective := effective } := by
  simp only [Motion.regulate] at h ⊢
  rw [h]

/-- Settles O37: R4 for throttle 0, for a throttle on any segment, for the default curve by its closed form, and for a
target of 0. -/
theorem targetCodeFollowsTheCurve : Obligations.TargetCodeFollowsTheCurve := by
  refine ⟨?_, ?_, ?_, ?_⟩
  · intro m t i followed zero
    rw [regulate_target_of_followed t followed, zero, curveTarget_zero]
  · intro m t i k f followed hf hT nonzero
    rw [hT] at nonzero
    have target := curveTarget_of_segment t.curve k hf nonzero
    have between := interpolation_between t.curve[k.castSucc] t.curve[k.succ] hf
    rw [regulate_target_of_followed t followed, hT]
    exact ⟨target, by omega, by omega⟩
  · intro m t i followed hc hT
    have target := curveTarget_defaultCurve hT
    rw [regulate_target_of_followed t followed, hc]
    refine ⟨fun h => ?_, fun h => ?_, fun h => ?_, fun j sameRequest less => ?_⟩
    · rw [target, if_pos h]
    · split at target <;> omega
    · split at target <;> omega
    · rw [← sameRequest] at followed
      rw [regulate_target_of_followed t followed, hc]
      exact curveTarget_defaultCurve_lt less hT
  · intro m t i zero
    exact regulate_eq_of_target_eq (zero.trans (regulate_target_of_standing m t i).symm)

end Sys2Proof.Machine

/-! PROOFS. The demand moved toward the goal (R8), case by case, and what the regulation step reports of it. -/

namespace Sys2Proof.Machine

/-! ## The demand moved toward the goal -/

section
variable {demand goal rising falling : Nat}

theorem moveDemand_rising (h : demand < goal) (step : rising ≠ 0) :
    moveDemand demand goal rising falling = min goal (demand + rising) := by
  rw [moveDemand, if_pos h, if_neg step]

theorem moveDemand_rising_at_once (h : demand < goal) (step : rising = 0) :
    moveDemand demand goal rising falling = goal := by
  rw [moveDemand, if_pos h, if_pos step]

theorem moveDemand_falling (h : goal < demand) (step : falling ≠ 0) :
    moveDemand demand goal rising falling = max goal (demand - falling) := by
  rw [moveDemand, if_neg (Nat.lt_asymm h), if_pos h, if_neg step]

theorem moveDemand_falling_at_once (h : goal < demand) (step : falling = 0) :
    moveDemand demand goal rising falling = goal := by
  rw [moveDemand, if_neg (Nat.lt_asymm h), if_pos h, if_pos step]

theorem moveDemand_at_goal (h : demand = goal) : moveDemand demand goal rising falling = demand := by
  rw [moveDemand, if_neg (Nat.not_lt_of_ge (Nat.le_of_eq h.symm)), if_neg (Nat.not_lt_of_ge (Nat.le_of_eq h))]

/-- The demand passes neither the goal nor the place it comes from. -/
theorem moveDemand_between (demand goal rising falling : Nat) :
    min demand goal ≤ moveDemand demand goal rising falling ∧
      moveDemand demand goal rising falling ≤ max demand goal := by
  rcases Nat.lt_trichotomy demand goal with below | at_goal | above
  · by_cases step : rising = 0
    · rw [moveDemand_rising_at_once below step]
      omega
    · rw [moveDemand_rising below step]
      omega
  · rw [moveDemand_at_goal at_goal]
    omega
  · by_cases step : falling = 0
    · rw [moveDemand_falling_at_once above step]
      omega
    · rw [moveDemand_falling above step]
      omega

end

/-! ## The demand of a regulation step -/

theorem regulate_demand (m : Motion) (t : TractionTable) (i : StepInput) :
    (m.regulate t i).demand =
      moveDemand m.demand ((m.regulate t i).target * 256) (risingStep t i.shunting)
        (fallingStep t i.shunting i.brake) := rfl

theorem regulate_falling_iff (m : Motion) (t : TractionTable) (i : StepInput) :
    (m.regulate t i).falling = true ↔ (m.regulate t i).demand < m.demand :=
  decide_eq_true_iff

/-- Settles O38: the cases of R8 are those of `moveDemand`. -/
theorem demandMovesTowardTheGoal : Obligations.DemandMovesTowardTheGoal := by
  intro m t i n goal rising falling
  have moved : n.demand = moveDemand m.demand goal rising falling := regulate_demand m t i
  have reported : n.falling = true ↔ n.demand < m.demand := regulate_falling_iff m t i
  refine ⟨?_, ?_, ?_, ?_, ?_, reported, ?_⟩ <;> rw [moved]
  · exact moveDemand_rising
  · exact moveDemand_falling
  · exact moveDemand_at_goal
  · exact moveDemand_rising_at_once
  · exact moveDemand_falling_at_once
  · exact moveDemand_between m.demand goal rising falling

end Sys2Proof.Machine

/-! PROOFS. The ditch phase (R152): how one light update moves it, how it alternates over many, and that every command
leaves it STEADY in CONFIG. -/

namespace Sys2Proof.Machine

/-! ## Parts read off a frame -/

section
variable {c : List Part} {s t : State}

theorem mode_of_keeps (kept : s.keeps c t) (h : Part.mode ∉ c) : t.mode = s.mode := by
  obtain ⟨-, mode, -⟩ := kept
  exact mode.resolve_left h

theorem tables_of_keeps (kept : s.keeps c t) (h : Part.tables ∉ c) : t.tables = s.tables := by
  obtain ⟨-, -, -, tables, -⟩ := kept
  exact tables.resolve_left h

theorem control_of_keeps (kept : s.keeps c t) (h : Part.control ∉ c) : t.control = s.control := by
  obtain ⟨-, -, -, -, -, -, -, control, -⟩ := kept
  exact control.resolve_left h

theorem sound_of_keeps (kept : s.keeps c t) (h : Part.sound ∉ c) : t.sound = s.sound := by
  obtain ⟨-, -, -, -, -, -, -, -, -, -, -, sound, -⟩ := kept
  exact sound.resolve_left h

theorem supply_of_keeps (kept : s.keeps c t) (h : Part.supply ∉ c) : t.supply = s.supply := by
  obtain ⟨-, -, -, -, -, -, -, -, -, -, -, -, -, -, -, -, -, supply, -⟩ := kept
  exact supply.resolve_left h

theorem light_of_keeps (kept : s.keeps c t) (h : Part.light ∉ c) : t.light = s.light := by
  obtain ⟨-, -, -, -, -, -, -, -, -, -, -, -, -, -, -, -, light, -⟩ := kept
  exact light.resolve_left h

end

@[simp] theorem finish_light (s : State) : s.finish.light = s.light :=
  light_of_keeps (c := [.store, .link]) (by simp) (by decide)

/-! ## The phase at a light update -/

@[simp] theorem DitchPhase.advance_silent (d : DitchPhase) : d.advance false = .steady := rfl

@[simp] theorem DitchPhase.advance_steady : DitchPhase.steady.advance true = .a 25 := rfl

theorem DitchPhase.advance_a {n : Nat} (h : 1 ≤ n) :
    (DitchPhase.a n).advance true = if n = 1 then .b 25 else .a (n - 1) := by
  have last : n ≤ 1 ↔ n = 1 := by omega
  simp [DitchPhase.advance, last]

theorem DitchPhase.advance_b {n : Nat} (h : 1 ≤ n) :
    (DitchPhase.b n).advance true = if n = 1 then .a 25 else .b (n - 1) := by
  have last : n ≤ 1 ↔ n = 1 := by omega
  simp [DitchPhase.advance, last]

/-- HORN is active while a voice that is not FREE carries it (R116). -/
theorem hornActive_iff (d : Sound) :
    d.hornActive = true ↔ ∃ i : Fin 8, d.voices[i].state ≠ .free ∧ d.voices[i].horn = true := by
  simp [Sound.hornActive, Voice.active, Vector.any_eq_true, Fin.exists_iff]

/-- The draws of the firebox channels move no ditch phase. -/
@[simp] theorem Light.draw_ditch (l : Light) (t : LightsTable) (firing : Bool) (ks : List (Fin 8)) :
    (l.draw t firing ks).ditch = l.ditch := by
  induction ks generalizing l with
  | nil => rfl
  | cons k rest ih =>
    simp only [Light.draw]
    split
    · exact ih _
    · exact ih l

@[simp] theorem lightCount_ditch (s : State) : s.lightCount.light.ditch = s.light.ditch := by
  simp only [State.lightCount]
  split
  · exact Light.draw_ditch _ _ _ _
  · rfl

theorem ditchStep_ditch_of_run {s : State} (run : s.mode = .run) :
    s.ditchStep.light.ditch = s.light.ditch.advance s.sound.hornActive := by
  rw [State.ditchStep, if_pos run]

theorem ditchStep_of_config {s : State} (config : s.mode = .config) : s.ditchStep = s := by
  rw [State.ditchStep, if_neg (by rw [config]; decide)]

theorem lightUpdate_ditch (s : State) : s.lightUpdate.light.ditch = s.lightCount.ditchStep.light.ditch := rfl

theorem lightUpdate_ditch_of_run {s : State} (run : s.mode = .run) :
    s.lightUpdate.light.ditch = s.light.ditch.advance s.sound.hornActive := by
  have counted : s.keeps [.light] s.lightCount := by simp
  have mode : s.lightCount.mode = .run := (mode_of_keeps counted (by decide)).trans run
  have sound : s.lightCount.sound = s.sound := sound_of_keeps counted (by decide)
  rw [lightUpdate_ditch, ditchStep_ditch_of_run mode, lightCount_ditch, sound]

theorem lightUpdate_ditch_of_config {s : State} (config : s.mode = .config) :
    s.lightUpdate.light.ditch = s.light.ditch := by
  have counted : s.keeps [.light] s.lightCount := by simp
  have mode : s.lightCount.mode = .config := (mode_of_keeps counted (by decide)).trans config
  rw [lightUpdate_ditch, ditchStep_of_config mode, lightCount_ditch]

/-! ## The alternation -/

/-- The phase after a number of light updates while HORN stays active (R152). -/
def DitchPhase.sounding (d : DitchPhase) : Nat → DitchPhase
  | 0 => d
  | n + 1 => (d.advance true).sounding n

theorem DitchPhase.sounding_zero (d : DitchPhase) : d.sounding 0 = d := rfl

theorem DitchPhase.sounding_succ (d : DitchPhase) (n : Nat) : d.sounding (n + 1) = (d.advance true).sounding n := rfl

section
variable {here : Nat → DitchPhase} {other : DitchPhase}
  (turn : ∀ n, 1 ≤ n → (here n).advance true = if n = 1 then other else here (n - 1))
include turn

theorem DitchPhase.sounding_countdown {left n : Nat} (h : n < left) : (here left).sounding n = here (left - n) := by
  induction n generalizing left with
  | zero => rfl
  | succ n ih =>
    have more : left ≠ 1 := by omega
    rw [sounding_succ, turn left (by omega), if_neg more, ih (by omega), Nat.sub_sub, Nat.add_comm 1 n]

theorem DitchPhase.sounding_to_other {left : Nat} (h : 1 ≤ left) : (here left).sounding left = other := by
  induction left with
  | zero => omega
  | succ left ih =>
    rw [sounding_succ, turn _ h]
    by_cases last : left = 0
    · rw [last, if_pos rfl, sounding_zero]
    · have more : left + 1 ≠ 1 := by omega
      rw [if_neg more, Nat.add_sub_cancel]
      exact ih (by omega)

/-- A phase with `left` updates left lasts that many, and gives way to the other at the last of them. -/
theorem DitchPhase.sounding_alternation {left n : Nat} (h : n ≤ left) (some_left : 1 ≤ n) :
    (here left).sounding n = if n = left then other else here (left - n) := by
  by_cases last : n = left
  · rw [if_pos last, last]
    exact sounding_to_other turn (last ▸ some_left)
  · rw [if_neg last]
    exact sounding_countdown turn (by omega)

end

theorem exec_lightUpdate (after : Nat) (s : State) :
    exec (.lightUpdate after) s = .next ((s.elapse after).lightUpdate).finish := rfl

theorem runAll_lightUpdate_succ (after n : Nat) (s : State) :
    runAll (List.replicate (n + 1) (.lightUpdate after)) s =
      runAll (List.replicate n (.lightUpdate after)) ((s.elapse after).lightUpdate).finish := rfl

/-- While HORN stays active in RUN, each of a run of light updates moves the ditch phase once. -/
theorem runAll_lightUpdates_ditch (after n : Nat) {s : State} (run : s.mode = .run)
    (horn : s.sound.hornActive = true) :
    ∃ t, runAll (List.replicate n (.lightUpdate after)) s = .next t ∧
      t.light.ditch = s.light.ditch.sounding n := by
  induction n generalizing s with
  | zero => exact ⟨s, rfl, rfl⟩
  | succ n ih =>
    let u := ((s.elapse after).lightUpdate).finish
    have kept : s.keeps [.now, .light, .store, .link] u := by simp [u]
    have mode : u.mode = .run := (mode_of_keeps kept (by decide)).trans run
    have sound : u.sound = s.sound := sound_of_keeps kept (by decide)
    have moved : u.light.ditch = s.light.ditch.advance true := by
      simp [u, lightUpdate_ditch_of_run (s := s.elapse after) run, horn]
    obtain ⟨t, ran, ditch⟩ := ih mode (sound ▸ horn)
    exact ⟨t, (runAll_lightUpdate_succ after n s).trans ran, by rw [ditch, moved, DitchPhase.sounding_succ]⟩

/-! ## The lamps of the ditch phase -/

theorem lampRequested_of_keeps {s t : State} (kept : s.keeps [.now, .light] t) (k : Fin 8) :
    t.lampRequested k = s.lampRequested k := by
  have tables := tables_of_keeps kept (by decide)
  have control := control_of_keeps kept (by decide)
  simp only [State.lampRequested, tables, control]

/-- The target of a channel that may be lit: the scaled level of its mode (R153). -/
theorem lampTarget_of_lit {s : State} {k : Fin 8} (run : s.mode = .run) (powered : s.supply.state ≠ .depleted)
    (requested : s.lampRequested k = true) :
    s.lampTarget k = scaleLevel (lampLevel s.tables.lights.channels[k] s.light.lamps[k] s.motion.direction
      s.light.strobeOn s.light.ditch) s.control.flags.dim s.supply.shed := by
  simp [State.lampTarget, run, powered, requested]

@[simp] theorem scaleLevel_zero (dim : Bool) (shed : Nat) : scaleLevel 0 dim shed = 0 := by simp [scaleLevel]

/-- In phase A the lamps of DITCH_A burn. -/
theorem lampLevel_ditchA {e : LampEntry} (mode : e.mode = .ditchA) (l : Lamp) (d : Direction) (strobe : Bool) (n : Nat) :
    lampLevel e l d strobe (.a n) = e.brightness := by
  simp [lampLevel, mode]

/-- In phase A the lamps of DITCH_B are dark. -/
theorem lampLevel_ditchB {e : LampEntry} (mode : e.mode = .ditchB) (l : Lamp) (d : Direction) (strobe : Bool) (n : Nat) :
    lampLevel e l d strobe (.a n) = 0 := by
  simp [lampLevel, mode]

/-- The targets of a light update are those of the state after its first two steps (R148). -/
theorem lightUpdate_target (s : State) (k : Fin 8) :
    s.lightUpdate.light.lamps[k].target = s.lightCount.ditchStep.lampTarget k := by
  simp [State.lightUpdate, State.lampStep, State.lampUpdated]

/-- The target of a channel that may be lit, in the ditch phase the light update comes to. -/
theorem lightUpdate_target_of_lit {s : State} {k : Fin 8} (run : s.mode = .run)
    (powered : s.supply.state ≠ .depleted) (requested : s.lampRequested k = true) :
    ∃ l d strobe, s.lightUpdate.light.lamps[k].target =
      scaleLevel (lampLevel s.tables.lights.channels[k] l d strobe s.lightUpdate.light.ditch)
        s.control.flags.dim s.supply.shed := by
  let u := s.lightCount.ditchStep
  have kept : s.keeps [.now, .light] u := by simp [u]
  have mode : u.mode = .run := (mode_of_keeps kept (by decide)).trans run
  have supply : u.supply = s.supply := supply_of_keeps kept (by decide)
  have lit := lampTarget_of_lit mode (supply ▸ powered) ((lampRequested_of_keeps kept k).trans requested)
  rw [supply, tables_of_keeps kept (by decide), control_of_keeps kept (by decide)] at lit
  exact ⟨_, _, _, (lightUpdate_target s k).trans lit⟩

/-- In phase A the lamps of DITCH_A burn and those of DITCH_B are dark. -/
theorem lightUpdate_ditch_targets {s : State} {k : Fin 8} {n : Nat} (run : s.mode = .run)
    (powered : s.supply.state ≠ .depleted) (requested : s.lampRequested k = true)
    (phase : s.lightUpdate.light.ditch = .a n) :
    (s.tables.lights.channels[k].mode = .ditchA → s.lightUpdate.light.lamps[k].target =
      scaleLevel s.tables.lights.channels[k].brightness s.control.flags.dim s.supply.shed) ∧
    (s.tables.lights.channels[k].mode = .ditchB → s.lightUpdate.light.lamps[k].target = 0) := by
  obtain ⟨l, d, strobe, target⟩ := lightUpdate_target_of_lit run powered requested
  rw [phase] at target
  constructor <;> intro mode
  · rw [target, lampLevel_ditchA mode]
  · rw [target, lampLevel_ditchB mode, scaleLevel_zero]

/-! ## STEADY in CONFIG -/

/-- In CONFIG the ditch phase is STEADY. -/
def State.ditchRests (s : State) : Prop := s.mode = .config → s.light.ditch = .steady

theorem ditchRests_of_run {s : State} (run : s.mode = .run) : s.ditchRests := by
  intro config
  rw [run] at config
  cases config

theorem ditchRests_of_steady {s : State} (steady : s.light.ditch = .steady) : s.ditchRests := fun _ => steady

theorem ditchRests_of_eq {s t : State} (rests : s.ditchRests) (mode : t.mode = s.mode)
    (ditch : t.light.ditch = s.light.ditch) : t.ditchRests :=
  fun config => ditch.trans (rests (mode.symm.trans config))

theorem ditchRests_of_keeps {s t : State} {c : List Part} (rests : s.ditchRests) (kept : s.keeps c t)
    (mode : Part.mode ∉ c) (light : Part.light ∉ c) : t.ditchRests :=
  ditchRests_of_eq rests (mode_of_keeps kept mode) (by rw [light_of_keeps kept light])

/-- Every part but the mode and the lamps. -/
abbrev partsBesideLamps : List Part :=
  [.now, .cause, .tables, .counters, .link, .radio, .control, .motion, .bridge, .cadence, .sound, .store, .flash, .audio,
    .smoke, .supply, .freeCount, .pending]

/-- What touches neither mode nor lamps keeps the phase at rest. -/
theorem ditchRests_beside {s t : State} (rests : s.ditchRests) (kept : s.keeps partsBesideLamps t) : t.ditchRests :=
  ditchRests_of_keeps rests kept (by decide) (by decide)

/-! ### Resets and modes -/

/-- A reset ends in CONFIG with the phase STEADY (R155, R175). -/
theorem resetBy_ditchRests (s : State) (cause : ResetCause) : (s.resetBy cause).ditchRests :=
  ditchRests_of_steady rfl

theorem enterRun_ditchRests (s : State) : s.enterRun.ditchRests := by
  have kept : State.keeps partsBesideLamps { s with mode := .run } s.enterRun := by simp [State.enterRun]
  exact ditchRests_of_run (mode_of_keeps kept (by decide))

theorem notify_ditchRests {s : State} (rests : s.ditchRests) (n : Notice) : (s.notify n).ditchRests :=
  ditchRests_beside rests (by simp)

theorem lightConfig_ditchRests (s : State) : s.lightConfig.ditchRests := ditchRests_of_steady rfl

theorem enterConfig_ditchRests (s : State) : s.enterConfig.ditchRests :=
  notify_ditchRests (lightConfig_ditchRests _) _

theorem setMode_ditchRests {s : State} (rests : s.ditchRests) (code : Nat) : (s.setMode code).1.ditchRests := by
  simp only [State.setMode]
  split
  · split
    · exact enterRun_ditchRests s
    · exact rests
  · split
    · exact rests
    · split
      · exact rests
      · exact enterConfig_ditchRests s

/-! ### The Light Unit and the Supply Manager -/

theorem lightUpdate_ditchRests {s : State} (rests : s.ditchRests) : s.lightUpdate.ditchRests := by
  have kept : s.keeps [.light] s.lightUpdate := by simp
  have mode : s.lightUpdate.mode = s.mode := mode_of_keeps kept (by decide)
  intro config
  rw [mode] at config
  rw [lightUpdate_ditch_of_config config]
  exact rests config

theorem strobeExpiry_ditchRests {s : State} (rests : s.ditchRests) : s.strobeExpiry.ditchRests := by
  simp only [State.strobeExpiry]
  split
  · exact ditchRests_of_eq rests rfl rfl
  · exact rests

theorem lampsOut_ditchRests {s : State} (rests : s.ditchRests) : s.lampsOut.ditchRests :=
  ditchRests_of_eq rests rfl rfl

theorem smokeDecide_ditchRests {s : State} (rests : s.ditchRests) : s.smokeDecide.ditchRests :=
  ditchRests_beside rests (by simp)

theorem enterDepleted_ditchRests {s : State} (rests : s.ditchRests) : s.enterDepleted.ditchRests := by
  simp only [State.enterDepleted]
  refine smokeDecide_ditchRests (lampsOut_ditchRests (ditchRests_beside rests ?_))
  simp

theorem sampleRideThrough_ditchRests {s : State} (rests : s.ditchRests) : s.sampleRideThrough.1.ditchRests := by
  simp only [State.sampleRideThrough]
  split
  · exact ditchRests_beside rests (by simp)
  · split
    · exact enterDepleted_ditchRests (ditchRests_beside rests (by simp))
    · split
      · exact enterDepleted_ditchRests (ditchRests_beside rests (by simp))
      · exact ditchRests_beside rests (by simp)

theorem sampleState_ditchRests {s : State} (rests : s.ditchRests) : s.sampleState.1.ditchRests := by
  simp only [State.sampleState]
  split
  · exact ditchRests_beside rests (by simp)
  · exact sampleRideThrough_ditchRests rests
  · exact ditchRests_beside rests (by simp)

theorem supplySample_ditchRests {s : State} (rests : s.ditchRests) (trackMv : Int) (railMv currentMicroamps : Nat) :
    (s.supplySample trackMv railMv currentMicroamps).ditchRests := by
  have sampled := sampleState_ditchRests
    (s := s.withSupply (s.supply.takeReadings trackMv railMv currentMicroamps)) (ditchRests_beside rests (by simp))
  exact ditchRests_beside sampled (by simp [State.supplySample])

/-! ### The Link Port -/

@[simp] theorem watchOverdue_light (s : State) : s.watchOverdue.light = s.light :=
  light_of_keeps (c := partsBesideLamps) (by simp) (by decide)

@[simp] theorem refreshFlags_light (s : State) : s.refreshFlags.light = s.light :=
  light_of_keeps (c := partsBesideLamps) (by simp) (by decide)

/-- Of all table rules only that of a lamp reaches the Light Unit, and it writes a firebox level (R154). -/
theorem writeEntry_ditch {s t : State} {table index : Nat} {entry : List Byte} {clamped : Bool}
    (written : s.writeEntry table index entry = .ok (t, clamped)) : t.light.ditch = s.light.ditch := by
  revert written
  simp only [State.writeEntry, State.writeTraction, State.writeCadence, State.writeRadio, State.writeFuncMap,
    State.writeBeacon, State.writeSample, State.writeCue, State.writeChuff, State.writeAmbient, State.writeSmoke,
    State.writeStrobe, State.writeLamp, State.writeSupply, State.writeMixer]
  (repeat' split) <;> intro written <;> cases written <;> simp

theorem answerWriteTable_ditchRests {s : State} (rests : s.ditchRests) (table index : Byte) (entry : List Byte) :
    (s.answerWriteTable table index entry).1.ditchRests := by
  have mode : (s.answerWriteTable table index entry).1.mode = s.mode :=
    mode_of_keeps (answerWriteTable_frame s table index entry) (by decide)
  refine ditchRests_of_eq rests mode ?_
  simp only [State.answerWriteTable]
  split
  · rfl
  · split
    · split
      · rfl
      next written => exact writeEntry_ditch written
    · rfl

theorem perform_ditchRests {s : State} (rests : s.ditchRests) (r : Request) : (s.perform r).1.ditchRests := by
  cases r with
  | setMode code => exact setMode_ditchRests rests code.toNat
  | writeTable table index entry => exact answerWriteTable_ditchRests rests table index entry
  | _ => exact ditchRests_beside rests (by simp [State.perform, State.refuse])

theorem serve_ditchRests {s : State} (rests : s.ditchRests) (q : Tagged) : (s.serve q).ditchRests := by
  have performed := perform_ditchRests rests q.request
  exact ditchRests_beside performed (by simp [State.serve])

theorem promote_ditchRests {s : State} (rests : s.ditchRests) : s.promote.ditchRests := by
  simp only [State.promote]
  split
  · exact serve_ditchRests (ditchRests_beside rests (by simp)) _
  · exact rests

theorem finishLink_ditchRests {s : State} (rests : s.ditchRests) : s.finishLink.ditchRests := by
  have placed : s.place.startLine.place.ditchRests := ditchRests_beside rests (by simp)
  exact ditchRests_beside (promote_ditchRests placed) (by simp [State.finishLink, State.settle])

theorem takeRequest_ditchRests {s : State} (rests : s.ditchRests) (q : Tagged) : (s.takeRequest q).ditchRests := by
  have renewed : s.renewHostLease.ditchRests := ditchRests_beside rests (by simp)
  simp only [State.takeRequest]
  split
  · exact serve_ditchRests renewed q
  · exact ditchRests_beside renewed (by simp)
  · exact ditchRests_beside renewed (by simp)

theorem checkFrame_ditchRests {s : State} (rests : s.ditchRests) (bytes : List Byte) :
    (s.checkFrame bytes).ditchRests := by
  simp only [State.checkFrame]
  split
  · exact takeRequest_ditchRests (ditchRests_beside rests (by simp)) _
  · exact ditchRests_beside rests (by simp)

theorem linkByte_ditchRests {s : State} (rests : s.ditchRests) (byte : Byte) (stopBit : Bool) :
    (s.linkByte byte stopBit).ditchRests := by
  simp only [State.linkByte]
  split
  · split
    · exact ditchRests_beside rests (by simp)
    · exact rests
  · split
    · split
      · exact ditchRests_beside rests (by simp)
      · split
        · exact checkFrame_ditchRests rests _
        · exact ditchRests_beside rests (by simp)
    · exact ditchRests_beside rests (by simp)

theorem frameEnd_ditchRests {s : State} (rests : s.ditchRests) : s.frameEnd.ditchRests := by
  simp only [State.frameEnd]
  split
  · exact rests
  · split
    · exact resetBy_ditchRests s .restart
    · exact ditchRests_beside rests (by simp)

/-! ### Every command -/

theorem elapse_ditchRests {s : State} (rests : s.ditchRests) (after : Nat) : (s.elapse after).ditchRests := rests

theorem finish_ditchRests {s : State} (rests : s.ditchRests) : s.finish.ditchRests :=
  ditchRests_beside rests (by simp)

/-- A request's command is the arrival of its frame (R168, assumption 5). -/
theorem exec_of_requestOf {c : Instr} {q : Tagged} (request : requestOf c = some q) (s : State) :
    ∃ after, exec c s = .next ((s.elapse after).takeRequest q).finishLink := by
  cases c <;> cases request <;> exact ⟨_, rfl⟩

/-- A line read's completion that does not stop the model touches neither the mode nor the lamps. -/
theorem lineReadComplete_beside {after : Nat} {s t : State} (next : exec (.lineReadComplete after) s = .next t) :
    s.keeps partsBesideLamps t := by
  simp only [exec, execLineReadComplete] at next
  split at next
  · split at next
    · cases next
    · split at next <;> cases next <;> simp
  all_goals cases next; simp

/-- A command whose meaning touches neither the mode nor the lamps does so with the end of its event too. -/
theorem beside_of_finish {s u t : State} (next : (.next u.finish : Host.Outcome State Fault Refusal) = .next t)
    (kept : s.keeps partsBesideLamps u) : s.keeps partsBesideLamps t := by
  cases next
  exact (finish_keeps s u (by decide)).mpr kept

/-- Every command keeps the ditch phase STEADY in CONFIG. -/
theorem exec_ditchRests {c : Instr} {s t : State} (rests : s.ditchRests) (next : exec c s = .next t) :
    t.ditchRests := by
  cases request : requestOf c with
  | some q =>
    obtain ⟨after, arrives⟩ := exec_of_requestOf request s
    cases arrives.symm.trans next
    exact finishLink_ditchRests (takeRequest_ditchRests (elapse_ditchRests rests after) q)
  | none =>
    cases c with
    | powerOn | pinReset => cases next; exact resetBy_ditchRests _ _
    | brownout | restartTakesEffect =>
      simp only [exec, execBrownout, execRestartTakesEffect] at next
      split at next <;> cases next
      · exact resetBy_ditchRests _ _
      · exact finish_ditchRests (elapse_ditchRests rests _)
    | linkByte => cases next; exact finishLink_ditchRests (linkByte_ditchRests (elapse_ditchRests rests _) _ _)
    | linkGapExpiry | storeReadComplete => cases next; exact finishLink_ditchRests (ditchRests_beside rests (by simp))
    | transmitFrameEnd => cases next; exact finishLink_ditchRests (frameEnd_ditchRests (elapse_ditchRests rests _))
    | lightUpdate => cases next; exact finish_ditchRests (lightUpdate_ditchRests (elapse_ditchRests rests _))
    | strobePhaseExpiry => cases next; exact finish_ditchRests (strobeExpiry_ditchRests (elapse_ditchRests rests _))
    | supplySample => cases next; exact finish_ditchRests (supplySample_ditchRests (elapse_ditchRests rests _) _ _ _)
    | lineReadComplete => exact ditchRests_beside rests (lineReadComplete_beside next)
    | ping | setModeRun | setModeConfig | readTable | writeTable | drive | releaseDrive | stop | setFunction | playCue
    | haltCue | storeErase | storeWrite | storeRead | readStatus | readCounters | clearFaultTraction | clearFaultSmoke
    | restart => cases request
    | _ => exact ditchRests_beside rests (beside_of_finish next (by simp))

/-! ## The rule -/

/-- Settles O51: `DitchPhase.advance` is the rule of one light update, its iterate that of many, and `ditchRests` holds
after every command. -/
theorem ditchPhaseRule : Obligations.DitchPhaseRule := by
  refine ⟨?_, ?_, ?_⟩
  · intro after s run horn
    have phase : (s.elapse after).lightUpdate.light.ditch = s.light.ditch.advance s.sound.hornActive :=
      lightUpdate_ditch_of_run (s := s.elapse after) run
    have active : horn → s.sound.hornActive = true := (hornActive_iff s.sound).mpr
    refine ⟨_, exec_lightUpdate after s, fun silent => ?_, fun sounds steady => ?_, fun sounds n left a => ?_,
      fun sounds n left b => ?_⟩ <;> rw [finish_light]
    · have quiet : s.sound.hornActive = false := Bool.eq_false_iff.mpr (mt (hornActive_iff s.sound).mp silent)
      rw [phase, quiet, DitchPhase.advance_silent]
    · have first : (s.elapse after).lightUpdate.light.ditch = .a 25 := by
        rw [phase, active sounds, steady, DitchPhase.advance_steady]
      exact ⟨first, fun k powered requested => lightUpdate_ditch_targets (s := s.elapse after) run powered requested first⟩
    · rw [phase, active sounds, a, DitchPhase.advance_a left]
    · rw [phase, active sounds, b, DitchPhase.advance_b left]
  · intro after n s run horn some_left within
    obtain ⟨t, ran, ditch⟩ := runAll_lightUpdates_ditch after n run horn
    refine ⟨t, ran, fun a => ?_, fun b => ?_⟩
    · rw [ditch, a, DitchPhase.sounding_alternation (fun _ => DitchPhase.advance_a) within some_left]
    · rw [ditch, b, DitchPhase.sounding_alternation (fun _ => DitchPhase.advance_b) within some_left]
  · intro c s t rests next
    exact exec_ditchRests rests next

end Sys2Proof.Machine
